-- ==== Sys2Proof/Word.lean ====
section
/-! DEFINITION. Word.lean: the word types of NGR-CORE, named as the spec names them. -/

namespace Sys2Proof

/-- One byte of a byte register (spec/10_state.md R20). -/
abbrev Byte := BitVec 8

/-- One 32-bit word of the host bus (spec/20_memory.md R38). -/
abbrev Word := BitVec 32

/-- One limb of a field element: the 32-bit two's complement pattern stored in a field register (R15). -/
abbrev Limb := BitVec 32

/-- One 64-bit word: a hash word, a message word, a finalization flag (R21), or a multiplier sum (R68). -/
abbrev Word64 := BitVec 64

/-- A byte address inside the 8 KiB register window (R37). -/
abbrev Offset := BitVec 13

end Sys2Proof
end

