-- ==== Sys2Proof/Config.lean ====
section
/-! DEFINITION. Config.lean: what the spec leaves open to the implementation.  Constants a test could show wrong
(the ROM, the IV, SIGMA, the ID value) stand under Machine/, not here. -/

namespace Sys2Proof.Config

/-- The value of the n-th host read that the spec says "returns any value": a read, while BUSY = 1, of a location
the in-flight command may write (R144, 93_implementation_defined.md I6), or a read while the reset input is
asserted (R139, I7).  It has no body: nothing constrains it (assumption 4).  The step applies it to the counter
`HostSide.draws` of the state, so each such read has a value of its own.  (DESIGN CHOICE: the form of the draw;
safe: every value is admitted.) -/
opaque anyRead : Nat → Word

end Sys2Proof.Config
end

