-- ==== Sys2Proof/Syntax.lean ====
section
/-! DEFINITION. Syntax.lean: the commands of NGR-CORE, one constructor per row of spec/opcode_table.json. -/

namespace Sys2Proof

/-- A field-register index, or the base register of a group: a 5-bit field, 0..31 (R56, R58). -/
abbrev Reg := Fin 32

/-- A table block of format S, 0..31: every value is legal (R58). -/
abbrev Block := Fin 32

/-- A command, with the operands its format uses (R57, R59).  Fields that a format does not use are not part
of the command: any value there decodes to the same command (R57). -/
inductive Instr where
  /-- FE_ZERO rd (R73). -/
  | feZero (rd : Reg)
  /-- FE_ONE rd (R74). -/
  | feOne (rd : Reg)
  /-- FE_COPY rd, ra (R75). -/
  | feCopy (rd ra : Reg)
  /-- FE_ADD rd, ra, rb (R76). -/
  | feAdd (rd ra rb : Reg)
  /-- FE_SUB rd, ra, rb (R77). -/
  | feSub (rd ra rb : Reg)
  /-- FE_NEG rd, ra (R78). -/
  | feNeg (rd ra : Reg)
  /-- FE_MUL rd, ra, rb (R79). -/
  | feMul (rd ra rb : Reg)
  /-- FE_SQ rd, ra (R80). -/
  | feSq (rd ra : Reg)
  /-- FE_SQ2 rd, ra (R81). -/
  | feSq2 (rd ra : Reg)
  /-- FE_REDUCE rd, ra (R82). -/
  | feReduce (rd ra : Reg)
  /-- FE_INV rd, ra (R83). -/
  | feInv (rd ra : Reg)
  /-- FE_CMOV rd, ra, rb, c (R84): `c` is the one-bit condition field. -/
  | feCmov (rd ra rb : Reg) (c : Bool)
  /-- FE_ISNEG ra (R85). -/
  | feIsneg (ra : Reg)
  /-- FE_TOBYTES ra (R86). -/
  | feTobytes (ra : Reg)
  /-- GE_ID rd (R93). -/
  | geId (rd : Reg)
  /-- GE_DBL rd, ra (R94). -/
  | geDbl (rd ra : Reg)
  /-- GE_MADD rd, ra, rb (R95). -/
  | geMadd (rd ra rb : Reg)
  /-- GE_C2P rd, ra (R96). -/
  | geC2p (rd ra : Reg)
  /-- GE_C2E rd, ra (R97). -/
  | geC2e (rd ra : Reg)
  /-- GE_E2P rd, ra (R98). -/
  | geE2p (rd ra : Reg)
  /-- GE_ENCODE ra (R99). -/
  | geEncode (ra : Reg)
  /-- SC_CLAMP (R104). -/
  | scClamp
  /-- GE_SELECT rd, blk, dig (R106): `dig` is the signed digit, -16..15 in a well-formed command (R58). -/
  | geSelect (rd : Reg) (blk : Block) (dig : Int)
  /-- GE_SMULB rd (R108). -/
  | geSmulb (rd : Reg)
  /-- B2_INIT (R118). -/
  | b2Init
  /-- B2_UPDATE (R119). -/
  | b2Update
  /-- B2_FINAL (R120). -/
  | b2Final
  /-- KD_DERIVE (R123). -/
  | kdDerive
  /-- NOP (R125). -/
  | nop
deriving DecidableEq, Repr

end Sys2Proof
end

