-- ==== Sys2Proof/WellFormed.lean ====
section
/-! DEFINITION. WellFormed.lean: which terms of `Instr` stand for a command word. -/

namespace Sys2Proof

/-- A command is well formed when every operand fits the field that holds it (R56, R58).  Register and block
indices are `Fin 32`, so the signed 5-bit digit of format S is the one operand left to check.  A group that runs
past FR[31] is NOT ill formed: it is a legal word that completes with BAD_OPERAND (R17). -/
def Instr.wf : Instr → Bool
  | .feZero _ => true
  | .feOne _ => true
  | .feCopy _ _ => true
  | .feAdd _ _ _ => true
  | .feSub _ _ _ => true
  | .feNeg _ _ => true
  | .feMul _ _ _ => true
  | .feSq _ _ => true
  | .feSq2 _ _ => true
  | .feReduce _ _ => true
  | .feInv _ _ => true
  | .feCmov _ _ _ _ => true
  | .feIsneg _ => true
  | .feTobytes _ => true
  | .geId _ => true
  | .geDbl _ _ => true
  | .geMadd _ _ _ => true
  | .geC2p _ _ => true
  | .geC2e _ _ => true
  | .geE2p _ _ => true
  | .geEncode _ => true
  | .scClamp => true
  | .geSelect _ _ dig => decide (-16 ≤ dig) && decide (dig ≤ 15)
  | .geSmulb _ => true
  | .b2Init => true
  | .b2Update => true
  | .b2Final => true
  | .kdDerive => true
  | .nop => true

end Sys2Proof
end

