-- ==== Sys2Proof/Decode.lean ====
section
/-! DEFINITION. Decode.lean: from a command word to a command, total on every word and rejecting by name; after it
the encoder, written from the same fields (spec/30_encoding.md). -/

namespace Sys2Proof

/-- The six fields of a command word (R56). -/
structure Fields where
  /-- bits 31:24, reserved -/
  rsv : BitVec 8
  /-- bit 23, the condition bit of FE_CMOV -/
  c : BitVec 1
  /-- bits 22:18, second source, or the signed digit DIG of format S -/
  rb : BitVec 5
  /-- bits 17:13, first source, or the table block BLK of format S -/
  ra : BitVec 5
  /-- bits 12:8, destination -/
  rd : BitVec 5
  /-- bits 7:0, opcode -/
  opc : BitVec 8
deriving DecidableEq, Repr

/-- Why a command word is illegal (R61): both reasons complete with ILLEGAL_COMMAND (R126). -/
inductive DecodeError where
  /-- RSV (bits 31:24) is not 0. -/
  | reservedBits (rsv : BitVec 8)
  /-- OPC is not in the opcode map of R59; 0x00 is one of these. -/
  | unassignedOpcode (opc : BitVec 8)
deriving DecidableEq, Repr

/-- Take a command word apart (R56). -/
def fieldsOf (w : Word) : Fields where
  rsv := w.extractLsb' 24 8
  c := w.extractLsb' 23 1
  rb := w.extractLsb' 18 5
  ra := w.extractLsb' 13 5
  rd := w.extractLsb' 8 5
  opc := w.extractLsb' 0 8

/-- Put a command word together: `RSV ‖ C ‖ RB ‖ RA ‖ RD ‖ OPC`, which is
`OPC | RD<<8 | RA<<13 | RB<<18 | C<<23` when RSV = 0 (R56). -/
def wordOf (f : Fields) : Word :=
  f.rsv ++ f.c ++ f.rb ++ f.ra ++ f.rd ++ f.opc

/-- `zext_5` of an operand field (R58). -/
def regOf (b : BitVec 5) : Fin 32 := ⟨b.toNat, b.isLt⟩

/-- `sext_5` of the digit field of format S (R58). -/
def digitOf (b : BitVec 5) : Int := b.toInt

/-- The opcode map (R59) with the operands of each format (R57, R58). -/
def decodeOpcode (f : Fields) : Except DecodeError Instr :=
  match f.opc.toNat with
  | 0x01 => .ok (.feZero (regOf f.rd))
  | 0x02 => .ok (.feOne (regOf f.rd))
  | 0x03 => .ok (.feCopy (regOf f.rd) (regOf f.ra))
  | 0x04 => .ok (.feAdd (regOf f.rd) (regOf f.ra) (regOf f.rb))
  | 0x05 => .ok (.feSub (regOf f.rd) (regOf f.ra) (regOf f.rb))
  | 0x06 => .ok (.feNeg (regOf f.rd) (regOf f.ra))
  | 0x07 => .ok (.feMul (regOf f.rd) (regOf f.ra) (regOf f.rb))
  | 0x08 => .ok (.feSq (regOf f.rd) (regOf f.ra))
  | 0x09 => .ok (.feSq2 (regOf f.rd) (regOf f.ra))
  | 0x0A => .ok (.feReduce (regOf f.rd) (regOf f.ra))
  | 0x0B => .ok (.feInv (regOf f.rd) (regOf f.ra))
  | 0x0C => .ok (.feCmov (regOf f.rd) (regOf f.ra) (regOf f.rb) (f.c == 1#1))
  | 0x0D => .ok (.feIsneg (regOf f.ra))
  | 0x0E => .ok (.feTobytes (regOf f.ra))
  | 0x10 => .ok (.geId (regOf f.rd))
  | 0x11 => .ok (.geDbl (regOf f.rd) (regOf f.ra))
  | 0x12 => .ok (.geMadd (regOf f.rd) (regOf f.ra) (regOf f.rb))
  | 0x13 => .ok (.geC2p (regOf f.rd) (regOf f.ra))
  | 0x14 => .ok (.geC2e (regOf f.rd) (regOf f.ra))
  | 0x15 => .ok (.geE2p (regOf f.rd) (regOf f.ra))
  | 0x16 => .ok (.geEncode (regOf f.ra))
  | 0x20 => .ok .scClamp
  | 0x21 => .ok (.geSelect (regOf f.rd) (regOf f.ra) (digitOf f.rb))
  | 0x22 => .ok (.geSmulb (regOf f.rd))
  | 0x30 => .ok .b2Init
  | 0x31 => .ok .b2Update
  | 0x32 => .ok .b2Final
  | 0x40 => .ok .kdDerive
  | 0x7F => .ok .nop
  | _ => .error (.unassignedOpcode f.opc)

/-- Decode a command word: RSV must be 0, then the opcode map decides (R56, R59, R61).  Every command is exactly
one 32-bit word (R55), so there is no length to work out. -/
def decode (w : Word) : Except DecodeError Instr :=
  if (fieldsOf w).rsv = 0#8 then decodeOpcode (fieldsOf w)
  else .error (.reservedBits (fieldsOf w).rsv)

/-- The opcode of a command (R59, spec/opcode_table.json). -/
def opcodeOf : Instr → BitVec 8
  | .feZero _ => 0x01#8
  | .feOne _ => 0x02#8
  | .feCopy _ _ => 0x03#8
  | .feAdd _ _ _ => 0x04#8
  | .feSub _ _ _ => 0x05#8
  | .feNeg _ _ => 0x06#8
  | .feMul _ _ _ => 0x07#8
  | .feSq _ _ => 0x08#8
  | .feSq2 _ _ => 0x09#8
  | .feReduce _ _ => 0x0A#8
  | .feInv _ _ => 0x0B#8
  | .feCmov _ _ _ _ => 0x0C#8
  | .feIsneg _ => 0x0D#8
  | .feTobytes _ => 0x0E#8
  | .geId _ => 0x10#8
  | .geDbl _ _ => 0x11#8
  | .geMadd _ _ _ => 0x12#8
  | .geC2p _ _ => 0x13#8
  | .geC2e _ _ => 0x14#8
  | .geE2p _ _ => 0x15#8
  | .geEncode _ => 0x16#8
  | .scClamp => 0x20#8
  | .geSelect _ _ _ => 0x21#8
  | .geSmulb _ => 0x22#8
  | .b2Init => 0x30#8
  | .b2Update => 0x31#8
  | .b2Final => 0x32#8
  | .kdDerive => 0x40#8
  | .nop => 0x7F#8

/-- The 5-bit field of a register or block index. -/
def fieldOf (r : Fin 32) : BitVec 5 := BitVec.ofNat 5 r.val

/-- The fields of a command's assembled word: unused fields 0 and RSV 0 (R62). -/
def fieldsOfInstr (i : Instr) : Fields :=
  let base : Fields := ⟨0#8, 0#1, 0#5, 0#5, 0#5, opcodeOf i⟩
  match i with
  | .feZero rd => { base with rd := fieldOf rd }
  | .feOne rd => { base with rd := fieldOf rd }
  | .feCopy rd ra => { base with rd := fieldOf rd, ra := fieldOf ra }
  | .feAdd rd ra rb => { base with rd := fieldOf rd, ra := fieldOf ra, rb := fieldOf rb }
  | .feSub rd ra rb => { base with rd := fieldOf rd, ra := fieldOf ra, rb := fieldOf rb }
  | .feNeg rd ra => { base with rd := fieldOf rd, ra := fieldOf ra }
  | .feMul rd ra rb => { base with rd := fieldOf rd, ra := fieldOf ra, rb := fieldOf rb }
  | .feSq rd ra => { base with rd := fieldOf rd, ra := fieldOf ra }
  | .feSq2 rd ra => { base with rd := fieldOf rd, ra := fieldOf ra }
  | .feReduce rd ra => { base with rd := fieldOf rd, ra := fieldOf ra }
  | .feInv rd ra => { base with rd := fieldOf rd, ra := fieldOf ra }
  | .feCmov rd ra rb c =>
    { base with rd := fieldOf rd, ra := fieldOf ra, rb := fieldOf rb, c := BitVec.ofBool c }
  | .feIsneg ra => { base with ra := fieldOf ra }
  | .feTobytes ra => { base with ra := fieldOf ra }
  | .geId rd => { base with rd := fieldOf rd }
  | .geDbl rd ra => { base with rd := fieldOf rd, ra := fieldOf ra }
  | .geMadd rd ra rb => { base with rd := fieldOf rd, ra := fieldOf ra, rb := fieldOf rb }
  | .geC2p rd ra => { base with rd := fieldOf rd, ra := fieldOf ra }
  | .geC2e rd ra => { base with rd := fieldOf rd, ra := fieldOf ra }
  | .geE2p rd ra => { base with rd := fieldOf rd, ra := fieldOf ra }
  | .geEncode ra => { base with ra := fieldOf ra }
  | .scClamp => base
  | .geSelect rd blk dig =>
    { base with rd := fieldOf rd, ra := fieldOf blk, rb := BitVec.ofInt 5 dig }
  | .geSmulb rd => { base with rd := fieldOf rd }
  | .b2Init => base
  | .b2Update => base
  | .b2Final => base
  | .kdDerive => base
  | .nop => base

/-- The assembled word of a command (R56, R62). -/
def encode (i : Instr) : Word := wordOf (fieldsOfInstr i)

/-- The 32-bit command word whose table bits are `w`: bits from `nbits` on are 0. -/
def tableWord (nbits w : Nat) : Word := BitVec.ofNat 32 (w % 2 ^ nbits)

/-- The command this decoder reads from an instruction numbered as spec/opcode_table.json numbers its bits.  A
command is one 32-bit word, whose bit 0 is the table's bit 0; bits past 31 belong to no command (R55). -/
def decodeTableWord (nbits w : Nat) : Option Instr :=
  if w % 2 ^ nbits < 2 ^ 32 then (decode (tableWord nbits w)).toOption else none

end Sys2Proof
end

