-- ==== Sys2Proof/Machine/State.lean ====
section
/-! DEFINITION. Machine/State.lean: everything the spec gives NGR-CORE to remember (R14), as plain data, the state
after reset (R36), and the reasons a step can stop. -/

namespace Sys2Proof.Machine

/-- A field element as a field register holds it: ten limbs `l[0..9]`, any 32-bit patterns (R15, R65). -/
structure FieldElement where
  l0 : Limb
  l1 : Limb
  l2 : Limb
  l3 : Limb
  l4 : Limb
  l5 : Limb
  l6 : Limb
  l7 : Limb
  l8 : Limb
  l9 : Limb
deriving DecidableEq, Repr

/-- Ten zero limbs. -/
def FieldElement.zero : FieldElement := ⟨0#32, 0#32, 0#32, 0#32, 0#32, 0#32, 0#32, 0#32, 0#32, 0#32⟩

/-- The Blake2b engine's states (R22, R117). -/
inductive EngineState where
  | uninitialized
  | initialized
  | updating
  | finalized
deriving DecidableEq, Repr

/-- The error codes a completed command can report (R126).  Codes 6..15 are never reported, so there is no such
value (R126, 93_implementation_defined.md I12). -/
inductive ErrorCode where
  | none
  | illegalCommand
  | badOperand
  | stateError
  | configError
  | invalidInput
deriving DecidableEq, Repr

/-- PHASE of the sequencer (R33): STATUS.BUSY = 1 exactly when it is `busy`. -/
inductive Phase where
  | idle
  | busy
deriving DecidableEq, Repr

/-- The hash engine's one Blake2b context (R21). -/
structure Blake2bState where
  /-- B2STATE, 2 bits (R22). -/
  engine : EngineState
  /-- H[0..7], the hash words. -/
  h : Vector Word64 8
  /-- T, the 128-bit byte counter. -/
  t : BitVec 128
  /-- F0, the first finalization flag. -/
  f0 : Word64
  /-- F1, the second finalization flag, always 0 in this hardware (R115). -/
  f1 : Word64
  /-- BUF, the pending block. -/
  buf : Vector Byte 128
  /-- BUFLEN, the number of valid bytes in BUF, 0..128. -/
  buflen : BitVec 8
  /-- NN, the output length latched at B2_INIT, 1..64 once initialised. -/
  nn : BitVec 7
deriving DecidableEq, Repr

/-- The fields of B2CFG that are stored; the reserved bits read 0 and ignore writes (R29). -/
structure B2Config where
  outlen : BitVec 7
  keylen : BitVec 7
  saltlen : BitVec 5
  perslen : BitVec 5
deriving DecidableEq, Repr

/-- What the world outside the block can do in one step (R38, R139): one word access of the host bus, or a change
of the hardware reset input. -/
inductive HostAction where
  /-- `MemRead(addr, 4)` of the register window. -/
  | read (addr : Offset)
  /-- `MemWrite(addr, 4, v)` of the register window. -/
  | write (addr : Offset) (v : Word)
  /-- The hardware reset input becomes asserted. -/
  | assertReset
  /-- The hardware reset input is released. -/
  | releaseReset
deriving DecidableEq, Repr

/-- Which of the two agents (R3) moves next, and with what. -/
inductive Move where
  /-- The host (or the platform's reset input) acts. -/
  | host (a : HostAction)
  /-- The sequencer gets its turn: it completes the in-flight command, if there is one (R34, R146). -/
  | sequencer
deriving DecidableEq, Repr

/-- The model's own record of the world outside the block.  None of it is NGR-CORE's state (assumption 2). -/
structure HostSide where
  /-- The level of the hardware reset input (R139). -/
  resetPin : Bool
  /-- The moves still to come, first one first: which agent moves and what the host does.  A list of any such moves
  is possible, so every interleaving and every latency LAT(op) of at least one step is admitted (R146). -/
  moves : List Move
  /-- The word the host's last read returned. -/
  rdata : Word
  /-- How many reads so far returned "any value" (R144, R139): the argument of `Config.anyRead`. -/
  draws : Nat
deriving DecidableEq, Repr

/-- The architectural state of NGR-CORE (R14), one field per piece of state, and the host side of its bus.  ID and
the ROM are constants (R24, R23) and have no field; scratch is 0 between steps (R33) and has none either
(assumption 3). -/
structure State where
  /-- FR[0..31], the field register file (R15). -/
  fr : Vector FieldElement 32
  /-- KEY, the Blake2b key (R20). -/
  key : Vector Byte 64
  /-- SALT, the Blake2b salt (R20). -/
  salt : Vector Byte 16
  /-- PERS, the Blake2b personalization (R20). -/
  pers : Vector Byte 16
  /-- DATA, the input bytes of one B2_UPDATE (R20). -/
  data : Vector Byte 128
  /-- DIGEST, the hash output (R20). -/
  digest : Vector Byte 64
  /-- SCALAR, the 256-bit little-endian scalar (R20). -/
  scalar : Vector Byte 32
  /-- SEED (R20). -/
  seed : Vector Byte 32
  /-- PUBKEY (R20). -/
  pubkey : Vector Byte 32
  /-- EXPANDED, seed then public key (R20). -/
  expanded : Vector Byte 64
  /-- OUT32, the 32-byte serialisation (R20). -/
  out32 : Vector Byte 32
  /-- The hash engine (R21). -/
  b2 : Blake2bState
  /-- CTRL.IE (R25); the rest of CTRL reads 0. -/
  ie : Bool
  /-- STATUS.DONE (R26). -/
  done : Bool
  /-- STATUS.OVR (R26). -/
  ovr : Bool
  /-- STATUS.ERR (R26). -/
  err : ErrorCode
  /-- INFLIGHT, the command word accepted last; CMD reads it back (R27, R33). -/
  inflight : Word
  /-- RESULT.NEG (R28); the rest of RESULT reads 0. -/
  neg : Bool
  /-- B2CFG (R29). -/
  b2cfg : B2Config
  /-- B2LEN.LEN (R30); the rest of B2LEN reads 0. -/
  b2len : BitVec 8
  /-- SEEDLEN.LEN (R31); the rest of SEEDLEN reads 0. -/
  seedlen : BitVec 8
  /-- PHASE (R33), which is STATUS.BUSY (R26). -/
  phase : Phase
  /-- The host side (not NGR-CORE's state). -/
  env : HostSide
deriving DecidableEq, Repr

/-- Why a step could stop with a fault.  There is no such reason: NGR-CORE has no fault that stops it.  A failing
command completes with an error code in STATUS and the machine goes on (R129), every bus access completes (R38), and
an idle block simply waits (R148). -/
inductive Fault where
deriving DecidableEq, Repr

/-- Why a step could be refused. -/
inductive Refusal where
  /-- Raised by `exec` alone, for a command that has no meaning in the model yet; safe, because the model then says
  nothing about it.  No arm of `exec` raises it: every command has its meaning. -/
  | notModelled (mnemonic : String)
deriving DecidableEq, Repr

/-- What one command, or one step, answers. -/
abbrev Outcome := Host.Outcome State Fault Refusal

/-- `n` bytes, all 0x00. -/
def zeroBytes (n : Nat) : Vector Byte n := Vector.replicate n 0#8

/-- The hash engine after reset (R36). -/
def Blake2bState.reset : Blake2bState where
  engine := .uninitialized
  h := Vector.replicate 8 0#64
  t := 0#128
  f0 := 0#64
  f1 := 0#64
  buf := zeroBytes 128
  buflen := 0#8
  nn := 0#7

/-- The host side of the machine right after reset: reset released, no move pending, nothing read (DESIGN CHOICE,
assumption 2: these four values are the model's, not the spec's). -/
def HostSide.initial : HostSide where
  resetPin := false
  moves := []
  rdata := 0#32
  draws := 0

/-- The machine right after reset: the table of R36 (R139, R141). -/
def State.reset : State where
  fr := Vector.replicate 32 FieldElement.zero
  key := zeroBytes 64
  salt := zeroBytes 16
  pers := zeroBytes 16
  data := zeroBytes 128
  digest := zeroBytes 64
  scalar := zeroBytes 32
  seed := zeroBytes 32
  pubkey := zeroBytes 32
  expanded := zeroBytes 64
  out32 := zeroBytes 32
  b2 := Blake2bState.reset
  ie := false
  done := false
  ovr := false
  err := .none
  inflight := 0#32
  neg := false
  b2cfg := ⟨64#7, 0#7, 0#5, 0#5⟩
  b2len := 0#8
  seedlen := 32#8
  phase := .idle
  env := HostSide.initial

end Sys2Proof.Machine
end

