-- ==== Sys2Proof/Machine/Operands.lean ====
section
/-! DEFINITION. Machine/Operands.lean: reading and writing the operands of commands: limbs, field registers, register
groups, byte registers, and the little-endian views of bytes. -/

namespace Sys2Proof.Machine

/-! ### Limbs -/

/-- `f.l[i]`, for i in 0..9 (R9). -/
def FieldElement.limb (f : FieldElement) (i : Nat) : Limb :=
  match i with
  | 0 => f.l0
  | 1 => f.l1
  | 2 => f.l2
  | 3 => f.l3
  | 4 => f.l4
  | 5 => f.l5
  | 6 => f.l6
  | 7 => f.l7
  | 8 => f.l8
  | 9 => f.l9
  | _ => 0#32

/-- `f` with limb `i` set and the other nine unchanged (R40). -/
def FieldElement.setLimb (f : FieldElement) (i : Nat) (v : Limb) : FieldElement :=
  match i with
  | 0 => { f with l0 := v }
  | 1 => { f with l1 := v }
  | 2 => { f with l2 := v }
  | 3 => { f with l3 := v }
  | 4 => { f with l4 := v }
  | 5 => { f with l5 := v }
  | 6 => { f with l6 := v }
  | 7 => { f with l7 := v }
  | 8 => { f with l8 := v }
  | 9 => { f with l9 := v }
  | _ => f

/-! ### Field registers and groups -/

/-- `FR[n]` (R9); no register is hardwired and no two names alias (R16). -/
def State.readFr (s : State) (n : Nat) : FieldElement := s.fr.getD n FieldElement.zero

/-- `FR[n] <- f`, all ten limbs (R9). -/
def State.writeFr (s : State) (n : Nat) (f : FieldElement) : State :=
  { s with fr := s.fr.setIfInBounds n f }

/-- The group `G(r, k)` lies inside FR[0..31]: r + k ≤ 32, never wrapping (R17). -/
def groupFits (r : Reg) (k : Nat) : Bool := decide (r.val + k ≤ 32)

/-- A projective point (P2), coordinates in the order of R18. -/
structure Projective where
  x : FieldElement
  y : FieldElement
  z : FieldElement
deriving DecidableEq, Repr

/-- An extended point (P3), coordinates in the order of R18. -/
structure Extended where
  x : FieldElement
  y : FieldElement
  z : FieldElement
  t : FieldElement
deriving DecidableEq, Repr

/-- A completed point (P1P1), coordinates in the order of R18. -/
structure Completed where
  x : FieldElement
  y : FieldElement
  z : FieldElement
  t : FieldElement
deriving DecidableEq, Repr

/-- A precomputed affine point (y+x, y-x, 2dxy), in the order of R18. -/
structure Precomp where
  ypx : FieldElement
  ymx : FieldElement
  xy2d : FieldElement
deriving DecidableEq, Repr

/-- `G(r, 3)` as a projective point (R18). -/
def State.readProjective (s : State) (r : Reg) : Projective :=
  ⟨s.readFr r.val, s.readFr (r.val + 1), s.readFr (r.val + 2)⟩

/-- `G(r, 4)` as an extended point (R18). -/
def State.readExtended (s : State) (r : Reg) : Extended :=
  ⟨s.readFr r.val, s.readFr (r.val + 1), s.readFr (r.val + 2), s.readFr (r.val + 3)⟩

/-- `G(r, 4)` as a completed point (R18). -/
def State.readCompleted (s : State) (r : Reg) : Completed :=
  ⟨s.readFr r.val, s.readFr (r.val + 1), s.readFr (r.val + 2), s.readFr (r.val + 3)⟩

/-- `G(r, 3)` as a precomputed affine point (R18). -/
def State.readPrecomp (s : State) (r : Reg) : Precomp :=
  ⟨s.readFr r.val, s.readFr (r.val + 1), s.readFr (r.val + 2)⟩

/-- `FR[r], FR[r+1], FR[r+2] <- a, b, c`. -/
def State.writeGroup3 (s : State) (r : Reg) (a b c : FieldElement) : State :=
  ((s.writeFr r.val a).writeFr (r.val + 1) b).writeFr (r.val + 2) c

/-- `FR[r], FR[r+1], FR[r+2], FR[r+3] <- a, b, c, d`. -/
def State.writeGroup4 (s : State) (r : Reg) (a b c d : FieldElement) : State :=
  (s.writeGroup3 r a b c).writeFr (r.val + 3) d

/-- `G(r, 3) <- p` (R18). -/
def State.writeProjective (s : State) (r : Reg) (p : Projective) : State :=
  s.writeGroup3 r p.x p.y p.z

/-- `G(r, 3) <- q` (R18). -/
def State.writePrecomp (s : State) (r : Reg) (q : Precomp) : State :=
  s.writeGroup3 r q.ypx q.ymx q.xy2d

/-- `G(r, 4) <- p` (R18). -/
def State.writeExtended (s : State) (r : Reg) (p : Extended) : State :=
  s.writeGroup4 r p.x p.y p.z p.t

/-- `G(r, 4) <- p` (R18). -/
def State.writeCompleted (s : State) (r : Reg) (p : Completed) : State :=
  s.writeGroup4 r p.x p.y p.z p.t

/-! ### Bytes, little-endian everywhere (R45) -/

/-- `leint`: the unsigned integer whose little-endian encoding these bytes are (R9). -/
def leint : List Byte → Nat
  | [] => 0
  | b :: bs => b.toNat + 256 * leint bs

/-- `LE_n(v)`: the n-byte little-endian encoding of 0 ≤ v < 2^(8n) (R9). -/
def leBytes (n v : Nat) : Vector Byte n :=
  Vector.ofFn fun k => BitVec.ofNat 8 (v / 2 ^ (8 * k.val))

/-- Byte k of a byte register. -/
def byteAt {n : Nat} (x : Vector Byte n) (k : Nat) : Byte := x.getD k 0#8

/-- The bus word m of a byte register: `X[4m] | X[4m+1]<<8 | X[4m+2]<<16 | X[4m+3]<<24` (R41). -/
def busWord {n : Nat} (x : Vector Byte n) (m : Nat) : Word :=
  byteAt x (4 * m + 3) ++ byteAt x (4 * m + 2) ++ byteAt x (4 * m + 1) ++ byteAt x (4 * m)

/-- A write of bus word m sets all four bytes of that word (R41). -/
def setBusWord {n : Nat} (x : Vector Byte n) (m : Nat) (w : Word) : Vector Byte n :=
  (((x.setIfInBounds (4 * m) (w.extractLsb' 0 8)).setIfInBounds (4 * m + 1)
    (w.extractLsb' 8 8)).setIfInBounds (4 * m + 2) (w.extractLsb' 16 8)).setIfInBounds (4 * m + 3)
    (w.extractLsb' 24 8)

/-- Word m of a wider value on the bus, least significant word first (R42). -/
def wideWord {n : Nat} (x : BitVec n) (m : Nat) : Word := x.extractLsb' (32 * m) 32

end Sys2Proof.Machine
end

