-- ==== Sys2Proof/Machine/Flags.lean ====
section
/-! DEFINITION. Machine/Flags.lean: the status, control and configuration words as the host reads and writes them,
and the interrupt output. -/

namespace Sys2Proof.Machine

/-- STATUS.ERR's number for an error code (R126). -/
def ErrorCode.code : ErrorCode → BitVec 4
  | .none => 0#4
  | .illegalCommand => 1#4
  | .badOperand => 2#4
  | .stateError => 3#4
  | .configError => 4#4
  | .invalidInput => 5#4

/-- B2STATE's number for an engine state (R22). -/
def EngineState.code : EngineState → BitVec 2
  | .uninitialized => 0#2
  | .initialized => 1#2
  | .updating => 2#2
  | .finalized => 3#2

/-- STATUS.BUSY = 1 exactly when PHASE = BUSY (R33). -/
def State.busy (s : State) : Bool := decide (s.phase = .busy)

/-- STATUS: reserved 31:10, B2ST 9:8, ERR 7:4, reserved 3, OVR 2, DONE 1, BUSY 0 (R26). -/
def State.statusWord (s : State) : Word :=
  0#22 ++ s.b2.engine.code ++ s.err.code ++ 0#1 ++ BitVec.ofBool s.ovr ++ BitVec.ofBool s.done
    ++ BitVec.ofBool s.busy

/-- CTRL: reserved 31:2, SRST reads 0, IE 0 (R25). -/
def State.ctrlWord (s : State) : Word := 0#31 ++ BitVec.ofBool s.ie

/-- RESULT: reserved 31:1, NEG 0 (R28). -/
def State.resultWord (s : State) : Word := 0#31 ++ BitVec.ofBool s.neg

/-- B2CFG: PERSLEN 28:24, SALTLEN 20:16, KEYLEN 14:8, OUTLEN 6:0, the other bits read 0 (R29). -/
def B2Config.word (c : B2Config) : Word :=
  0#3 ++ c.perslen ++ 0#3 ++ c.saltlen ++ 0#1 ++ c.keylen ++ 0#1 ++ c.outlen

/-- A write of B2CFG stores each field and ignores the reserved bits (R29). -/
def B2Config.ofWord (w : Word) : B2Config where
  outlen := w.extractLsb' 0 7
  keylen := w.extractLsb' 8 7
  saltlen := w.extractLsb' 16 5
  perslen := w.extractLsb' 24 5

/-- A write of STATUS: DONE and OVR clear where 1 is written, everything else is read-only (R26). -/
def State.writeStatus (s : State) (w : Word) : State :=
  { s with done := s.done && !w.getLsbD 1, ovr := s.ovr && !w.getLsbD 2 }

/-- `irq = CTRL.IE & STATUS.DONE` (R131). -/
def State.irq (s : State) : Bool := s.ie && s.done

end Sys2Proof.Machine
end

