-- ==== Sys2Proof/Machine/Ops.lean ====
section
/-! DEFINITION. Machine/Ops.lean: the sequencer's two steps (accept, complete), an error's effect, reset, and whose
turn it is. -/

namespace Sys2Proof.Machine

/-! ### Accept and complete (R34) -/

/-- Accept the command word `v`: INFLIGHT <- v; PHASE <- BUSY; STATUS.DONE <- 0; STATUS.ERR <- 0 (R34).  Clearing
the error record of the command before is also all that NGR-CORE has for a return from an error (R130). -/
def State.accept (s : State) (v : Word) : State :=
  { s with inflight := v, phase := .busy, done := false, err := .none }

/-- The end of a command: STATUS.ERR <- code, PHASE <- IDLE, STATUS.DONE <- 1 (R34). -/
def State.complete (s : State) (code : ErrorCode) : State :=
  { s with err := code, phase := .idle, done := true }

/-- `raise Error(code)`, the one error mechanism of NGR-CORE: no destination is written, and the command completes
with the code (R129). -/
def State.raiseError (s : State) (code : ErrorCode) : State := s.complete code

/-- What a command leaves: its destinations written and ERR = 0, or, where its rule raised an error, the state before
it but for STATUS (R34, R129). -/
def State.conclude (s : State) (result : Except ErrorCode State) : State :=
  match result with
  | .ok t => t.complete .none
  | .error code => s.raiseError code

/-- A command always completes (R129, R146), so it always answers a next state. -/
def finish (s : State) (result : Except ErrorCode State) : Outcome := .next (s.conclude result)

/-- The completion of an illegal command word: ILLEGAL_COMMAND and no other effect (R61). -/
def completeIllegal (s : State) : Outcome := finish s (.error .illegalCommand)

/-! ### Reset -/

/-- Every piece of NGR-CORE's state takes its reset value (R36, R141); the host side is not the block's. -/
def State.resetBlock (s : State) : State := { State.reset with env := s.env }

/-- Soft reset, a write of 1 to CTRL.SRST: the effect of a hardware reset, whether BUSY is 0 or 1; an in-flight
command is aborted and the other bits of the write are ignored (R140). -/
def State.softReset (s : State) : State := s.resetBlock

/-- The hardware reset input is asserted: every piece of state takes its reset value (R139). -/
def State.assertReset (s : State) : State :=
  { s.resetBlock with env := { s.env with resetPin := true } }

/-- The asserted hardware reset input is released: every piece of state has its reset value at that point (R139).  With
the input not asserted there is nothing to release. -/
def State.releaseReset (s : State) : State :=
  if s.env.resetPin then { s.resetBlock with env := { s.env with resetPin := false } } else s

/-! ### The host side -/

/-- The host's read returned `v`.  Reads have no side effects on the block (R48). -/
def State.returnData (s : State) (v : Word) : State := { s with env := { s.env with rdata := v } }

/-- The host's read returned "any value" (R144, R139): the next free value, which nothing constrains. -/
def State.returnAny (s : State) : State :=
  { s with env := { s.env with rdata := Config.anyRead s.env.draws, draws := s.env.draws + 1 } }

/-! ### Whose turn it is -/

/-- What the next step does. -/
inductive Turn where
  /-- The host acts on the state given. -/
  | host (a : HostAction) (s : State)
  /-- The sequencer performs the complete step of the command word `w` on the state given. -/
  | command (w : Word) (s : State)
  /-- Nothing happens: no command is in flight, or the reset input holds the sequencer. -/
  | wait (s : State)
deriving DecidableEq, Repr

/-- The sequencer's turn: the complete step is enabled at every point while PHASE = BUSY (R146), and never while
the reset input is asserted (R139). -/
def State.sequencerTurn (s : State) : Turn :=
  if s.env.resetPin then .wait s
  else match s.phase with
    | .busy => .command s.inflight s
    | .idle => .wait s

/-- The head of the move list says who moves; with no move left the sequencer alone goes on, so an accepted command
completes (the weak fairness of R146) and an idle block waits (R148). -/
def State.nextTurn (s : State) : Turn :=
  match s.env.moves with
  | [] => s.sequencerTurn
  | .sequencer :: ms => State.sequencerTurn { s with env := { s.env with moves := ms } }
  | .host a :: ms => .host a { s with env := { s.env with moves := ms } }

/-- The state in which `w` has just been accepted, out of reset, and the next step is the sequencer's: it completes
exactly that command word.  (The model's own operation, assumption 1.) -/
def State.placeCommand (s : State) (w : Word) : State :=
  let moves := match s.env.moves with
    | [] => []
    | m :: ms => .sequencer :: m :: ms
  { s.accept w with env := { s.env with resetPin := false, moves := moves } }

end Sys2Proof.Machine
end

