-- ==== Sys2Proof/Machine/Blake2b.lean ====
section
/-! DEFINITION. Machine/Blake2b.lean: the hash engine's functions and the meanings of its commands
(spec/43_blake2b.md). -/

namespace Sys2Proof.Machine

/-! ### Constants and the compression function -/

/-- IV[0..7] (R111). -/
def blakeIV : Vector Word64 8 :=
  #v[0x6A09E667F3BCC908#64, 0xBB67AE8584CAA73B#64, 0x3C6EF372FE94F82B#64, 0xA54FF53A5F1D36F1#64,
    0x510E527FADE682D1#64, 0x9B05688C2B3E6C1F#64, 0x1F83D9ABFB41BD6B#64, 0x5BE0CD19137E2179#64]

/-- SIGMA[0..9][0..15] (R112). -/
def blakeSigma : List (List Nat) :=
  [[0, 1, 2, 3, 4, 5, 6, 7, 8, 9, 10, 11, 12, 13, 14, 15],
    [14, 10, 4, 8, 9, 15, 13, 6, 1, 12, 0, 2, 11, 7, 5, 3],
    [11, 8, 12, 0, 5, 2, 15, 13, 10, 14, 3, 6, 7, 1, 9, 4],
    [7, 9, 3, 1, 13, 12, 11, 14, 2, 6, 5, 10, 4, 0, 15, 8],
    [9, 0, 5, 7, 2, 4, 10, 15, 14, 1, 11, 12, 6, 8, 3, 13],
    [2, 12, 6, 10, 0, 11, 8, 3, 4, 13, 7, 5, 15, 14, 1, 9],
    [12, 5, 1, 15, 14, 13, 4, 10, 0, 7, 6, 3, 9, 2, 8, 11],
    [13, 11, 7, 14, 12, 1, 3, 9, 5, 0, 15, 4, 8, 6, 2, 10],
    [6, 15, 14, 9, 11, 3, 0, 8, 12, 2, 13, 7, 1, 4, 10, 5],
    [10, 2, 8, 4, 7, 6, 1, 5, 15, 11, 9, 14, 3, 12, 13, 0]]

/-- Word i of a working vector or of the message. -/
def wordAt {n : Nat} (v : Vector Word64 n) (i : Nat) : Word64 := v.getD i 0#64

/-- The mixing function G(v, a, b, c, d, x, y): additions mod 2^64, rotations 32, 24, 16, 63 (R113). -/
def blakeG (v : Vector Word64 16) (a b c d : Nat) (x y : Word64) : Vector Word64 16 :=
  let va := wordAt v a + wordAt v b + x
  let vd := (wordAt v d ^^^ va).rotateRight 32
  let vc := wordAt v c + vd
  let vb := (wordAt v b ^^^ vc).rotateRight 24
  let va := va + vb + y
  let vd := (vd ^^^ va).rotateRight 16
  let vc := vc + vd
  let vb := (vb ^^^ vc).rotateRight 63
  (((v.setIfInBounds a va).setIfInBounds b vb).setIfInBounds c vc).setIfInBounds d vd

/-- Round r: four columns, then four diagonals (R114, 90_conflicts.md C5). -/
def blakeRound (m : Vector Word64 16) (v : Vector Word64 16) (r : Nat) : Vector Word64 16 :=
  let s := blakeSigma.getD (r % 10) []
  let w := fun k => wordAt m (s.getD k 0)
  let v := blakeG v 0 4 8 12 (w 0) (w 1)
  let v := blakeG v 1 5 9 13 (w 2) (w 3)
  let v := blakeG v 2 6 10 14 (w 4) (w 5)
  let v := blakeG v 3 7 11 15 (w 6) (w 7)
  let v := blakeG v 0 5 10 15 (w 8) (w 9)
  let v := blakeG v 1 6 11 12 (w 10) (w 11)
  let v := blakeG v 2 7 8 13 (w 12) (w 13)
  blakeG v 3 4 9 14 (w 14) (w 15)

/-- The little-endian 64-bit word at bytes 8i .. 8i+7 (R114). -/
def leWordAt {n : Nat} (x : Vector Byte n) (i : Nat) : Word64 :=
  BitVec.ofNat 64 (leint [byteAt x (8 * i), byteAt x (8 * i + 1), byteAt x (8 * i + 2), byteAt x (8 * i + 3),
    byteAt x (8 * i + 4), byteAt x (8 * i + 5), byteAt x (8 * i + 6), byteAt x (8 * i + 7)])

/-- The 16 message words of a block (R114). -/
def messageWords (block : Vector Byte 128) : Vector Word64 16 := Vector.ofFn fun i => leWordAt block i.val

/-- The working vector: h, then IV with the counter XORed into v[12], v[13] and the flags into v[14], v[15]
(R114, 90_conflicts.md C4). -/
def workingVector (h : Vector Word64 8) (t : BitVec 128) (f0 f1 : Word64) : Vector Word64 16 :=
  #v[wordAt h 0, wordAt h 1, wordAt h 2, wordAt h 3, wordAt h 4, wordAt h 5, wordAt h 6, wordAt h 7,
    wordAt blakeIV 0, wordAt blakeIV 1, wordAt blakeIV 2, wordAt blakeIV 3,
    wordAt blakeIV 4 ^^^ t.extractLsb' 0 64, wordAt blakeIV 5 ^^^ t.extractLsb' 64 64,
    wordAt blakeIV 6 ^^^ f0, wordAt blakeIV 7 ^^^ f1]

/-- COMPRESS(h, block, t, f0, f1): 12 rounds (R114). -/
def compress (h : Vector Word64 8) (block : Vector Byte 128) (t : BitVec 128) (f0 f1 : Word64) :
    Vector Word64 8 :=
  let v := [0, 1, 2, 3, 4, 5, 6, 7, 8, 9, 10, 11].foldl (blakeRound (messageWords block))
    (workingVector h t f0 f1)
  Vector.ofFn fun i => wordAt h i.val ^^^ wordAt v i.val ^^^ wordAt v (i.val + 8)

/-! ### The parameter block and the digest -/

/-- The parameter block P (R116). -/
def paramBlock (cfg : B2Config) (salt pers : Vector Byte 16) : Vector Byte 64 :=
  Vector.ofFn fun k =>
    if k.val = 0 then cfg.outlen.setWidth 8
    else if k.val = 1 then cfg.keylen.setWidth 8
    else if k.val = 2 then 1#8
    else if k.val = 3 then 1#8
    else if 32 ≤ k.val ∧ k.val < 48 ∧ cfg.saltlen = 16#5 then byteAt salt (k.val - 32)
    else if 48 ≤ k.val ∧ cfg.perslen = 16#5 then byteAt pers (k.val - 48)
    else 0#8

/-- H[i] = IV[i] ^ leint(P[8i .. 8i+7]) (R116). -/
def initialHash (p : Vector Byte 64) : Vector Word64 8 :=
  Vector.ofFn fun i => wordAt blakeIV i.val ^^^ leWordAt p i.val

/-- Byte k of LE_8(H[0]) ‖ ... ‖ LE_8(H[7]), H[0] first (R120). -/
def hashByte (h : Vector Word64 8) (k : Nat) : Byte := (wordAt h (k / 8)).extractLsb' (8 * (k % 8)) 8

/-- The 64 hash bytes. -/
def hashBytes (h : Vector Word64 8) : Vector Byte 64 := Vector.ofFn fun k => hashByte h k.val

/-- The configuration check of B2_INIT: OUTLEN in 1..64, KEYLEN ≤ 64, SALTLEN and PERSLEN 0 or 16 (R118, R126). -/
def B2Config.legal (c : B2Config) : Bool :=
  decide (1 ≤ c.outlen.toNat) && decide (c.outlen.toNat ≤ 64) && decide (c.keylen.toNat ≤ 64)
    && (c.saltlen == 0#5 || c.saltlen == 16#5) && (c.perslen == 0#5 || c.perslen == 16#5)

/-! ### The engine's three operations -/

/-- A new context (R118).  A key is held in BUF as a full, zero-padded pending block (90_conflicts.md C7). -/
def b2Start (cfg : B2Config) (key : Vector Byte 64) (salt pers : Vector Byte 16) : Blake2bState where
  engine := .initialized
  h := initialHash (paramBlock cfg salt pers)
  t := 0#128
  f0 := 0#64
  f1 := 0#64
  buf := Vector.ofFn fun k => if k.val < cfg.keylen.toNat then byteAt key k.val else 0#8
  buflen := if cfg.keylen = 0#7 then 0#8 else 128#8
  nn := cfg.outlen

/-- One byte of B2_UPDATE's loop: a full buffer is compressed because more input remains, then the byte is appended;
BUF bytes are not cleared (R119). -/
def b2Absorb (b : Blake2bState) (x : Byte) : Blake2bState :=
  let b := if b.buflen = 128#8
    then { b with t := b.t + 128#128, h := compress b.h b.buf (b.t + 128#128) 0#64 0#64, buflen := 0#8 } else b
  { b with buf := b.buf.setIfInBounds b.buflen.toNat x, buflen := b.buflen + 1#8 }

/-- The bytes absorbed one by one, and the engine then UPDATING (R119). -/
def b2AbsorbAll (b : Blake2bState) (xs : List Byte) : Blake2bState :=
  { xs.foldl b2Absorb b with engine := .updating }

/-- The engine accepts data: INITIALIZED or UPDATING (R119, R120). -/
def EngineState.accepting (e : EngineState) : Bool :=
  match e with
  | .uninitialized => false
  | .initialized => true
  | .updating => true
  | .finalized => false

/-- BUF with the bytes from BUFLEN on zeroed (R120). -/
def padBuffer (buf : Vector Byte 128) (buflen : Nat) : Vector Byte 128 :=
  Vector.ofFn fun k => if k.val < buflen then byteAt buf k.val else 0#8

/-- The last block: the counter takes BUFLEN, F0 is set, the block is padded and compressed (R120). -/
def b2Finish (b : Blake2bState) : Blake2bState :=
  let t := b.t + b.buflen.setWidth 128
  let buf := padBuffer b.buf b.buflen.toNat
  { b with engine := .finalized, t := t, f0 := BitVec.allOnes 64, buf := buf,
           h := compress b.h buf t (BitVec.allOnes 64) b.f1 }

/-- DIGEST: the first NN hash bytes, then zeros (R120). -/
def digestOf (b : Blake2bState) : Vector Byte 64 :=
  Vector.ofFn fun k => if k.val < b.nn.toNat then hashByte b.h k.val else 0#8

/-! ### Commands -/

/-- B2_INIT, legal in every engine state (R117, R118). -/
def execB2Init (s : State) : Outcome :=
  finish s (if s.b2cfg.legal then .ok { s with b2 := b2Start s.b2cfg s.key s.salt s.pers }
    else .error .configError)

/-- B2_UPDATE: BAD_OPERAND comes before STATE_ERROR (R119, R128). -/
def execB2Update (s : State) : Outcome :=
  finish s (if 128 < s.b2len.toNat then .error .badOperand
    else if s.b2.engine.accepting then
      .ok { s with b2 := b2AbsorbAll s.b2 (s.data.toList.take s.b2len.toNat) }
    else .error .stateError)

/-- B2_FINAL (R120). -/
def execB2Final (s : State) : Outcome :=
  finish s (if s.b2.engine.accepting then
      .ok { s with b2 := b2Finish s.b2, digest := digestOf (b2Finish s.b2) }
    else .error .stateError)

end Sys2Proof.Machine
end

