-- ==== Sys2Proof/Machine/FieldCore.lean ====
section
/-! DEFINITION. Machine/FieldCore.lean: the field unit's functions on field elements (spec/40_field.md §2 and the
pseudocode of §3), without the commands.  32-bit and 64-bit two's complement wrap (`s32`, `s64` of R8) is BitVec
arithmetic at that width. -/

namespace Sys2Proof.Machine

/-! ### The radix (R7, R10) -/

/-- The field modulus p = 2^255 - 19. -/
def fieldPrime : Nat := 2 ^ 255 - 19

/-- w(i), the nominal width of limb i: 26 for even i, 25 for odd i (R7). -/
def limbWidth (i : Nat) : Nat := if i % 2 = 0 then 26 else 25

/-- pos(i) = ceil(25.5·i), the position of limb i (R7, R10). -/
def limbPos (i : Nat) : Nat := (51 * i + 1) / 2

/-- val(f) = Σ f.l[i]·2^pos(i), an integer; the element denoted is val(f) mod p (R10). -/
def FieldElement.val (f : FieldElement) : Int :=
  f.l0.toInt + f.l1.toInt * 2 ^ 26 + f.l2.toInt * 2 ^ 51 + f.l3.toInt * 2 ^ 77 + f.l4.toInt * 2 ^ 102
    + f.l5.toInt * 2 ^ 128 + f.l6.toInt * 2 ^ 153 + f.l7.toInt * 2 ^ 179 + f.l8.toInt * 2 ^ 204
    + f.l9.toInt * 2 ^ 230

/-- Limb i of canon(v): `(v mod p)[pos(i)+w(i)-1 : pos(i)]` (R11). -/
def canonLimb (v i : Nat) : Limb := BitVec.ofNat 32 (v % fieldPrime / 2 ^ limbPos i % 2 ^ limbWidth i)

/-- canon(v), the canonical form of v mod p (R11). -/
def canon (v : Nat) : FieldElement :=
  ⟨canonLimb v 0, canonLimb v 1, canonLimb v 2, canonLimb v 3, canonLimb v 4, canonLimb v 5, canonLimb v 6,
    canonLimb v 7, canonLimb v 8, canonLimb v 9⟩

/-! ### Limb-wise functions -/

/-- The limb-wise result of a two-operand function. -/
def zipLimbs (op : Limb → Limb → Limb) (f g : FieldElement) : FieldElement :=
  ⟨op f.l0 g.l0, op f.l1 g.l1, op f.l2 g.l2, op f.l3 g.l3, op f.l4 g.l4, op f.l5 g.l5, op f.l6 g.l6,
    op f.l7 g.l7, op f.l8 g.l8, op f.l9 g.l9⟩

/-- The limbs (0, …, 0) (R73). -/
def feZero : FieldElement := FieldElement.zero

/-- The limbs (1, 0, …, 0) (R74). -/
def feOne : FieldElement := { FieldElement.zero with l0 := 1#32 }

/-- FE_ADD's function: each limb sum wraps in 32 bits, with no carry between limbs (R76). -/
def feAdd (f g : FieldElement) : FieldElement := zipLimbs (fun a b => a + b) f g

/-- FE_SUB's function (R77). -/
def feSub (f g : FieldElement) : FieldElement := zipLimbs (fun a b => a - b) f g

/-- FE_NEG's function (R78). -/
def feNeg (f : FieldElement) : FieldElement := zipLimbs (fun a _ => -a) f f

/-- The all-ones or all-zeros mask `s32(-c)` (R84). -/
def cmovMask (c : Bool) : Limb := -(BitVec.ofBool c).setWidth 32

/-- FE_CMOV's function: `f ^ ((f ^ g) & mask)`, limb by limb (R84). -/
def feCmov (f g : FieldElement) (c : Bool) : FieldElement :=
  zipLimbs (fun a b => a ^^^ ((a ^^^ b) &&& cmovMask c)) f g

/-! ### MULSUM and CARRY (R68, R69) -/

/-- Ten signed 64-bit values `h[0..9]`. -/
structure Wide where
  h0 : Word64
  h1 : Word64
  h2 : Word64
  h3 : Word64
  h4 : Word64
  h5 : Word64
  h6 : Word64
  h7 : Word64
  h8 : Word64
  h9 : Word64
deriving DecidableEq, Repr

/-- `h[k]`, for k in 0..9. -/
def Wide.get (h : Wide) (k : Nat) : Word64 :=
  match k with
  | 0 => h.h0
  | 1 => h.h1
  | 2 => h.h2
  | 3 => h.h3
  | 4 => h.h4
  | 5 => h.h5
  | 6 => h.h6
  | 7 => h.h7
  | 8 => h.h8
  | 9 => h.h9
  | _ => 0#64

/-- `h` with `h[k]` set to `v`. -/
def Wide.set (h : Wide) (k : Nat) (v : Word64) : Wide :=
  match k with
  | 0 => { h with h0 := v }
  | 1 => { h with h1 := v }
  | 2 => { h with h2 := v }
  | 3 => { h with h3 := v }
  | 4 => { h with h4 := v }
  | 5 => { h with h5 := v }
  | 6 => { h with h6 := v }
  | 7 => { h with h7 := v }
  | 8 => { h with h8 := v }
  | 9 => { h with h9 := v }
  | _ => h

/-- The ten sums of limb products, modulo 2^64, from the sign-extended limbs of both operands: the product of limbs
i and j goes to sum (i+j) mod 10, times 2 when i and j are both odd, times 19 when i + j ≥ 10 (R68).  The double
loop of R68 is written out; the sums do not depend on the order of the terms. -/
def mulsumWide (f0 f1 f2 f3 f4 f5 f6 f7 f8 f9 g0 g1 g2 g3 g4 g5 g6 g7 g8 g9 : Word64) : Wide where
  h0 := (f0 * g0) + 38#64 * (f1 * g9) + 19#64 * (f2 * g8) + 38#64 * (f3 * g7) + 19#64 * (f4 * g6)
    + 38#64 * (f5 * g5) + 19#64 * (f6 * g4) + 38#64 * (f7 * g3) + 19#64 * (f8 * g2) + 38#64 * (f9 * g1)
  h1 := (f0 * g1) + (f1 * g0) + 19#64 * (f2 * g9) + 19#64 * (f3 * g8) + 19#64 * (f4 * g7)
    + 19#64 * (f5 * g6) + 19#64 * (f6 * g5) + 19#64 * (f7 * g4) + 19#64 * (f8 * g3) + 19#64 * (f9 * g2)
  h2 := (f0 * g2) + 2#64 * (f1 * g1) + (f2 * g0) + 38#64 * (f3 * g9) + 19#64 * (f4 * g8)
    + 38#64 * (f5 * g7) + 19#64 * (f6 * g6) + 38#64 * (f7 * g5) + 19#64 * (f8 * g4) + 38#64 * (f9 * g3)
  h3 := (f0 * g3) + (f1 * g2) + (f2 * g1) + (f3 * g0) + 19#64 * (f4 * g9)
    + 19#64 * (f5 * g8) + 19#64 * (f6 * g7) + 19#64 * (f7 * g6) + 19#64 * (f8 * g5) + 19#64 * (f9 * g4)
  h4 := (f0 * g4) + 2#64 * (f1 * g3) + (f2 * g2) + 2#64 * (f3 * g1) + (f4 * g0)
    + 38#64 * (f5 * g9) + 19#64 * (f6 * g8) + 38#64 * (f7 * g7) + 19#64 * (f8 * g6) + 38#64 * (f9 * g5)
  h5 := (f0 * g5) + (f1 * g4) + (f2 * g3) + (f3 * g2) + (f4 * g1)
    + (f5 * g0) + 19#64 * (f6 * g9) + 19#64 * (f7 * g8) + 19#64 * (f8 * g7) + 19#64 * (f9 * g6)
  h6 := (f0 * g6) + 2#64 * (f1 * g5) + (f2 * g4) + 2#64 * (f3 * g3) + (f4 * g2)
    + 2#64 * (f5 * g1) + (f6 * g0) + 38#64 * (f7 * g9) + 19#64 * (f8 * g8) + 38#64 * (f9 * g7)
  h7 := (f0 * g7) + (f1 * g6) + (f2 * g5) + (f3 * g4) + (f4 * g3)
    + (f5 * g2) + (f6 * g1) + (f7 * g0) + 19#64 * (f8 * g9) + 19#64 * (f9 * g8)
  h8 := (f0 * g8) + 2#64 * (f1 * g7) + (f2 * g6) + 2#64 * (f3 * g5) + (f4 * g4)
    + 2#64 * (f5 * g3) + (f6 * g2) + 2#64 * (f7 * g1) + (f8 * g0) + 38#64 * (f9 * g9)
  h9 := (f0 * g9) + (f1 * g8) + (f2 * g7) + (f3 * g6) + (f4 * g5)
    + (f5 * g4) + (f6 * g3) + (f7 * g2) + (f8 * g1) + (f9 * g0)

/-- A limb read as a signed integer, in 64 bits. -/
def limbSext (x : Limb) : Word64 := x.signExtend 64

/-- MULSUM(f, g), the pre-carry products (R68). -/
def mulsum (f g : FieldElement) : Wide :=
  mulsumWide (limbSext f.l0) (limbSext f.l1) (limbSext f.l2) (limbSext f.l3) (limbSext f.l4)
    (limbSext f.l5) (limbSext f.l6) (limbSext f.l7) (limbSext f.l8) (limbSext f.l9)
    (limbSext g.l0) (limbSext g.l1) (limbSext g.l2) (limbSext g.l3) (limbSext g.l4)
    (limbSext g.l5) (limbSext g.l6) (limbSext g.l7) (limbSext g.l8) (limbSext g.l9)

/-- The order of the carries (R69). -/
def carryOrder : List Nat := [0, 4, 1, 5, 2, 6, 3, 7, 4, 8, 9, 0]

/-- The rounded carry out of sum k: `asr(s64(h[k] + 2^(w-1)), w)` (R69). -/
def carryOut (h : Wide) (k : Nat) : Word64 :=
  (h.get k + BitVec.ofNat 64 (2 ^ (limbWidth k - 1))).sshiftRight (limbWidth k)

/-- One step of the carry chain: the carry out of sum k leaves it and enters sum k+1, or, times 19, sum 0 (R69). -/
def carryStep (h : Wide) (k : Nat) : Wide :=
  let c := carryOut h k
  let h' := h.set k (h.get k - c <<< limbWidth k)
  if k = 9 then h'.set 0 (h'.get 0 + 19#64 * c) else h'.set (k + 1) (h'.get (k + 1) + c)

/-- The low 32 bits of each sum: `s32(h[i])` (R69). -/
def Wide.toLimbs (h : Wide) : FieldElement :=
  ⟨h.h0.setWidth 32, h.h1.setWidth 32, h.h2.setWidth 32, h.h3.setWidth 32, h.h4.setWidth 32, h.h5.setWidth 32,
    h.h6.setWidth 32, h.h7.setWidth 32, h.h8.setWidth 32, h.h9.setWidth 32⟩

/-- CARRY(h), the 12-step carry chain (R69). -/
def carry (h : Wide) : FieldElement := (carryOrder.foldl carryStep h).toLimbs

/-- Every sum doubled, modulo 2^64 (R81). -/
def Wide.double (h : Wide) : Wide :=
  ⟨2#64 * h.h0, 2#64 * h.h1, 2#64 * h.h2, 2#64 * h.h3, 2#64 * h.h4, 2#64 * h.h5, 2#64 * h.h6, 2#64 * h.h7,
    2#64 * h.h8, 2#64 * h.h9⟩

/-- FE_MUL's function (R79). -/
def feMul (f g : FieldElement) : FieldElement := carry (mulsum f g)

/-- FE_SQ's function (R80). -/
def feSq (f : FieldElement) : FieldElement := carry (mulsum f f)

/-- FE_SQ2's function: the sums are doubled before the carry chain (R81). -/
def feSq2 (f : FieldElement) : FieldElement := carry (mulsum f f).double

/-! ### REDUCE and PACK (R70, R71) -/

/-- The limb indices in order. -/
def limbIndices : List Nat := [0, 1, 2, 3, 4, 5, 6, 7, 8, 9]

/-- The quotient estimate q of R70, after its loop over the limbs. -/
def reduceQuotient (f : FieldElement) : Limb :=
  limbIndices.foldl (fun q i => (f.limb i + q).sshiftRight (limbWidth i))
    ((19#32 * f.l9 + BitVec.ofNat 32 (2 ^ 24)).sshiftRight 25)

/-- One unrounded carry of R70: out of limb i into limb i+1; the carry out of limb 9 is discarded. -/
def reduceCarryStep (h : FieldElement) (i : Nat) : FieldElement :=
  let c := (h.limb i).sshiftRight (limbWidth i)
  let h' := h.setLimb i (h.limb i - c <<< limbWidth i)
  if i < 9 then h'.setLimb (i + 1) (h'.limb (i + 1) + c) else h'

/-- REDUCE(f), the canonical reduction (R70). -/
def feReduce (f : FieldElement) : FieldElement :=
  limbIndices.foldl reduceCarryStep (f.setLimb 0 (f.l0 + 19#32 * reduceQuotient f))

/-- Σ h[i]·2^pos(i) of limbs read as unsigned integers (R71). -/
def packValue (h : FieldElement) : Nat :=
  h.l0.toNat + h.l1.toNat * 2 ^ 26 + h.l2.toNat * 2 ^ 51 + h.l3.toNat * 2 ^ 77 + h.l4.toNat * 2 ^ 102
    + h.l5.toNat * 2 ^ 128 + h.l6.toNat * 2 ^ 153 + h.l7.toNat * 2 ^ 179 + h.l8.toNat * 2 ^ 204
    + h.l9.toNat * 2 ^ 230

/-- PACK(h) = LE_32(Σ h[i]·2^pos(i)) (R71). -/
def fePack (h : FieldElement) : Vector Byte 32 := leBytes 32 (packValue h)

/-- FE_ISNEG's bit: bit 0 of the reduced limb 0 (R85). -/
def feIsNegative (f : FieldElement) : Bool := (feReduce f).l0.getLsbD 0

/-- FE_TOBYTES's function: PACK(REDUCE(f)) (R86). -/
def feToBytes (f : FieldElement) : Vector Byte 32 := fePack (feReduce f)

/-! ### INVCHAIN (R72) -/

/-- `sqn(x, n)`: FE_SQ's function applied n times (R72). -/
def feSqn (x : FieldElement) (n : Nat) : FieldElement :=
  match n with
  | 0 => x
  | n + 1 => feSqn (feSq x) n

/-- INVCHAIN(z), the fixed chain for z^(2^255-21): 254 squarings and 11 multiplications (R72). -/
def feInvert (z : FieldElement) : FieldElement :=
  let t0 := feSq z
  let t1 := feSqn t0 2
  let t1 := feMul z t1
  let t0 := feMul t0 t1
  let t2 := feSq t0
  let t1 := feMul t1 t2
  let t2 := feSqn t1 5
  let t1 := feMul t2 t1
  let t2 := feSqn t1 10
  let t2 := feMul t2 t1
  let t3 := feSqn t2 20
  let t2 := feMul t3 t2
  let t2 := feSqn t2 10
  let t1 := feMul t2 t1
  let t2 := feSqn t1 50
  let t2 := feMul t2 t1
  let t3 := feSqn t2 100
  let t2 := feMul t3 t2
  let t2 := feSqn t2 50
  let t1 := feMul t2 t1
  let t1 := feSqn t1 5
  feMul t1 t0

end Sys2Proof.Machine
end

