-- ==== Sys2Proof/Machine/Field.lean ====
section
/-! DEFINITION. Machine/Field.lean: the meanings of the field commands (spec/40_field.md §3).  No field command
checks bounds or reports an error (R65, R127). -/

namespace Sys2Proof.Machine

/-- FE_ZERO (R73). -/
def execFeZero (rd : Reg) (s : State) : Outcome := finish s (.ok (s.writeFr rd.val feZero))

/-- FE_ONE (R74). -/
def execFeOne (rd : Reg) (s : State) : Outcome := finish s (.ok (s.writeFr rd.val feOne))

/-- FE_COPY, all ten limbs, bit-exact (R75). -/
def execFeCopy (rd ra : Reg) (s : State) : Outcome :=
  finish s (.ok (s.writeFr rd.val (s.readFr ra.val)))

/-- FE_ADD (R76). -/
def execFeAdd (rd ra rb : Reg) (s : State) : Outcome :=
  finish s (.ok (s.writeFr rd.val (feAdd (s.readFr ra.val) (s.readFr rb.val))))

/-- FE_SUB (R77). -/
def execFeSub (rd ra rb : Reg) (s : State) : Outcome :=
  finish s (.ok (s.writeFr rd.val (feSub (s.readFr ra.val) (s.readFr rb.val))))

/-- FE_NEG (R78). -/
def execFeNeg (rd ra : Reg) (s : State) : Outcome :=
  finish s (.ok (s.writeFr rd.val (feNeg (s.readFr ra.val))))

/-- FE_MUL (R79). -/
def execFeMul (rd ra rb : Reg) (s : State) : Outcome :=
  finish s (.ok (s.writeFr rd.val (feMul (s.readFr ra.val) (s.readFr rb.val))))

/-- FE_SQ (R80). -/
def execFeSq (rd ra : Reg) (s : State) : Outcome :=
  finish s (.ok (s.writeFr rd.val (feSq (s.readFr ra.val))))

/-- FE_SQ2 (R81). -/
def execFeSq2 (rd ra : Reg) (s : State) : Outcome :=
  finish s (.ok (s.writeFr rd.val (feSq2 (s.readFr ra.val))))

/-- FE_REDUCE (R82). -/
def execFeReduce (rd ra : Reg) (s : State) : Outcome :=
  finish s (.ok (s.writeFr rd.val (feReduce (s.readFr ra.val))))

/-- FE_INV; the inverse of 0 is no error (R83). -/
def execFeInv (rd ra : Reg) (s : State) : Outcome :=
  finish s (.ok (s.writeFr rd.val (feInvert (s.readFr ra.val))))

/-- FE_CMOV (R84). -/
def execFeCmov (rd ra rb : Reg) (c : Bool) (s : State) : Outcome :=
  finish s (.ok (s.writeFr rd.val (feCmov (s.readFr ra.val) (s.readFr rb.val) c)))

/-- FE_ISNEG writes RESULT.NEG and no field register (R85). -/
def execFeIsneg (ra : Reg) (s : State) : Outcome :=
  finish s (.ok { s with neg := feIsNegative (s.readFr ra.val) })

/-- FE_TOBYTES writes OUT32 and no field register (R86). -/
def execFeTobytes (ra : Reg) (s : State) : Outcome :=
  finish s (.ok { s with out32 := feToBytes (s.readFr ra.val) })

end Sys2Proof.Machine
end

