-- ==== Sys2Proof/Machine/Group.lean ====
section
/-! DEFINITION. Machine/Group.lean: the point functions and the meanings of the group commands
(spec/41_group.md). -/

namespace Sys2Proof.Machine

/-! ### Point functions -/

/-- The extended identity (0, 1, 1, 0) (R92). -/
def extendedIdentity : Extended := ⟨feZero, feOne, feOne, feZero⟩

/-- The precomputed identity (1, 1, 0) (R92). -/
def precompIdentity : Precomp := ⟨feOne, feOne, feZero⟩

/-- Projective doubling: four squarings, no multiplication (R94). -/
def pointDouble (p : Projective) : Completed :=
  let xx := feSq p.x
  let yy := feSq p.y
  let b := feSq2 p.z
  let a := feAdd p.x p.y
  let aa := feSq a
  let y3 := feAdd yy xx
  let z3 := feSub yy xx
  let x3 := feSub aa y3
  let t3 := feSub b z3
  ⟨x3, y3, z3, t3⟩

/-- Mixed addition of an extended and a precomputed point (R95). -/
def pointMadd (p : Extended) (q : Precomp) : Completed :=
  let ypx := feAdd p.y p.x
  let ymx := feSub p.y p.x
  let a := feMul ypx q.ypx
  let b := feMul ymx q.ymx
  let c := feMul q.xy2d p.t
  let d := feAdd p.z p.z
  ⟨feSub a b, feAdd a b, feAdd d c, feSub d c⟩

/-- Completed to projective (R96). -/
def completedToProjective (p : Completed) : Projective :=
  ⟨feMul p.x p.t, feMul p.y p.z, feMul p.z p.t⟩

/-- Completed to extended (R97). -/
def completedToExtended (p : Completed) : Extended :=
  ⟨feMul p.x p.t, feMul p.y p.z, feMul p.z p.t, feMul p.x p.y⟩

/-- Extended to projective: T is dropped (R98). -/
def extendedToProjective (p : Extended) : Projective := ⟨p.x, p.y, p.z⟩

/-- Affine encoding: the bytes of y = Y/Z, with the sign of x = X/Z XORed into bit 7 of byte 31 (R99). -/
def pointEncode (p : Projective) : Vector Byte 32 :=
  let recip := feInvert p.z
  let x := feMul p.x recip
  let y := feMul p.y recip
  let s := feToBytes y
  s.setIfInBounds 31 (byteAt s 31 ^^^ ((BitVec.ofBool (feIsNegative x)).setWidth 8 <<< 7))

/-! ### Commands: a group that does not fit is BAD_OPERAND, with nothing written (R17) -/

/-- GE_ID (R93). -/
def execGeId (rd : Reg) (s : State) : Outcome :=
  finish s (if groupFits rd 4 then .ok (s.writeExtended rd extendedIdentity) else .error .badOperand)

/-- GE_DBL (R94). -/
def execGeDbl (rd ra : Reg) (s : State) : Outcome :=
  finish s (if groupFits rd 4 && groupFits ra 3
    then .ok (s.writeCompleted rd (pointDouble (s.readProjective ra))) else .error .badOperand)

/-- GE_MADD (R95). -/
def execGeMadd (rd ra rb : Reg) (s : State) : Outcome :=
  finish s (if groupFits rd 4 && groupFits ra 4 && groupFits rb 3
    then .ok (s.writeCompleted rd (pointMadd (s.readExtended ra) (s.readPrecomp rb)))
    else .error .badOperand)

/-- GE_C2P (R96). -/
def execGeC2p (rd ra : Reg) (s : State) : Outcome :=
  finish s (if groupFits rd 3 && groupFits ra 4
    then .ok (s.writeProjective rd (completedToProjective (s.readCompleted ra))) else .error .badOperand)

/-- GE_C2E (R97). -/
def execGeC2e (rd ra : Reg) (s : State) : Outcome :=
  finish s (if groupFits rd 4 && groupFits ra 4
    then .ok (s.writeExtended rd (completedToExtended (s.readCompleted ra))) else .error .badOperand)

/-- GE_E2P: bit-exact copies of X, Y, Z; only G(ra, 3) is read (R98). -/
def execGeE2p (rd ra : Reg) (s : State) : Outcome :=
  finish s (if groupFits rd 3 && groupFits ra 3
    then .ok (s.writeProjective rd (s.readProjective ra)) else .error .badOperand)

/-- GE_ENCODE writes OUT32; only G(ra, 3) is read and RESULT is not written (R99). -/
def execGeEncode (ra : Reg) (s : State) : Outcome :=
  finish s (if groupFits ra 3
    then .ok { s with out32 := pointEncode (s.readProjective ra) } else .error .badOperand)

end Sys2Proof.Machine
end

