-- ==== Sys2Proof/Machine/Rom.lean ====
section
/-! DEFINITION. Machine/Rom.lean: the curve, the base point and the constant table ROM (spec/41_group.md R89,
spec/42_scalarmult.md R102, R103).  The table holds the affine points; `romFormula` is R103's own construction of
them, and an obligation states that the two agree. -/

namespace Sys2Proof.Machine

/-! ### The curve in affine coordinates -/

/-- The curve constant d = -121665/121666 mod p (R89). -/
def curveD : Nat := 0x52036cee2b6ffe738cc740797779e89800700a4d4141d8ab75eb4dca135978a3

/-- b^e mod p, for an exponent e below 2^fuel, by repeated squaring. -/
def powMod (b e fuel : Nat) : Nat :=
  match fuel with
  | 0 => 1
  | k + 1 =>
    if e % 2 = 1 then b * powMod (b * b % fieldPrime) (e / 2) k % fieldPrime
    else powMod (b * b % fieldPrime) (e / 2) k

/-- The inverse mod p: v^(p-2) (R12). -/
def invMod (v : Nat) : Nat := powMod (v % fieldPrime) (fieldPrime - 2) 255

/-- The Edwards addition law on affine points (R103). -/
def edwardsAdd (a b : Nat × Nat) : Nat × Nat :=
  let k := curveD * a.1 % fieldPrime * b.1 % fieldPrime * a.2 % fieldPrime * b.2 % fieldPrime
  ((a.1 * b.2 + a.2 * b.1) * invMod (1 + k) % fieldPrime,
    (a.2 * b.2 + a.1 * b.1) * invMod (1 + (fieldPrime - k)) % fieldPrime)

/-- The base point B (R102). -/
def basePoint : Nat × Nat :=
  (15112221349535400772501151409588531511454012693041857206046113283949847762202,
    4 * invMod 5 % fieldPrime)

/-- The point doubled n times. -/
def doubleTimes (a : Nat × Nat) (n : Nat) : Nat × Nat :=
  match n with
  | 0 => a
  | n + 1 => doubleTimes (edwardsAdd a a) n

/-- 256^i·B. -/
def blockBase (i : Nat) : Nat × Nat :=
  match i with
  | 0 => basePoint
  | i + 1 => doubleTimes (blockBase i) 8

/-- (j+1)·P. -/
def multipleOf (a : Nat × Nat) (j : Nat) : Nat × Nat :=
  match j with
  | 0 => a
  | j + 1 => edwardsAdd (multipleOf a j) a

/-- R103's own definition of the affine point of entry j of block i: (j+1)·256^i·B. -/
def romFormula (i j : Nat) : Nat × Nat := multipleOf (blockBase i) j

/-! ### The table -/

/-- Block 0: the points 1..8 times 256^0·B (R103). -/
def romBlock0 : List (Nat × Nat) := [
  (0x216936d3cd6e53fec0a4e231fdd6dc5c692cc7609525a7b2c9562d608f25d51a,
    0x6666666666666666666666666666666666666666666666666666666666666658),
  (0x36ab384c9f5a046c3d043b7d1833e7ac080d8e4515d7a45f83c5a14e2843ce0e,
    0x2260cdf3092329c21da25ee8c9a21f5697390f51643851560e5f46ae6af8a3c9),
  (0x67ae9c4a22928f491ff4ae743edac83a6343981981624886ac62485fd3f8e25c,
    0x1267b1d177ee69aba126a18e60269ef79f16ec176724030402c3684878f5b4d4),
  (0x203da8db56cff1468325d4b87a3520f91a739ec193ce1547493aa657c4c9f870,
    0x47d0e827cb1595e1470eb88580d5716c4cf22832ea2f0ff0df38ab61ca32112f),
  (0x49fda73eade3587bfcef7cf7d12da5de5c2819f93e1be1a591409cc0322ef233,
    0x5f4825b298feae6fe02c6e148992466631282eca89430b5d10d21f83d676c8ed),
  (0x4c9797ba7a45601c62aeacc0dd0a29bea1e599826c7b4427783a741a7dcbf23d,
    0x054de3fc2886d8a11db709a7fd4f7d77f9417c06944d6b60c1d27ad0f9497ef4),
  (0x14568685fcf4bd4ee9e3ee194b1d810783e809f3bbf1ce955855981af50e4107,
    0x31c563e32b47d52f87ce6468dd36ad41f0882b46f7abf23d12c4c4b59f4062b8),
  (0x6742e15f97d771b642862d5cf84ecf93eb3ac67b80698b993b87fdbc08a584c8,
    0x21d30600c9e573796ead6f09668af38f81783cfc621ee4931e2f5ba9fc37b9b4)]

/-- Block 1: the points 1..8 times 256^1·B (R103). -/
def romBlock1 : List (Nat × Nat) := [
  (0x5e7e07ed4e1decbfe6e9cbc126905449d4b578fbb561576d20b8bcdd0cc2a556,
    0x0f55755c51f102796bf5ebaa81d3260e7d1b3d9ac127d9a80e142031566cf6c7),
  (0x2eecbf81b3d084733331f9eefa70d42621effd9b303961d25409333c82cd340a,
    0x54d2dc2da137827c4132d9b740a119b6484d4d4849e6e074b89cf764008b93e8),
  (0x70b225147463be28a5aa7b1879cd8dbe57eadd2aa53d51b94566cef314cc93bb,
    0x244980ded32ff401c2606727f94d609a147934004dd9160a5b9e7392b18d9c02),
  (0x6b113a52f9f3fd0590ac7cb6c8cbb37abcf147c44b2ae11d9151c7d55b4a2b68,
    0x1aeb017159697e792eb8da1805519c06296595f4f57996c590954359f327c13d),
  (0x661b75757abbc179ad6a11dd399040591e057ee83fe6428719c2fde6e9a95bd2,
    0x05da1ae1b5d4bb12f0ce022f4f807c07d10c9557d6db12ae497d97e42a7b09be),
  (0x603ba4adc34a9feb3b4b4de22065bd3e2cafd6aac31420342fea3c8ab6490615,
    0x1fdbaf2c3482ccd90facd46ae046c50cbc48be06d2f37a9a812a2a95c0e658bc),
  (0x3d718e644bf2d3a45d1e15af3af9e330ebd6a85bd12c1693369d40310b391d99,
    0x320d055dbba3f4142f2288113a22a8925f902ac77f1f7280a88e3bf5a23600f9),
  (0x3c1ae7527612d38bb541f511fcc6283d8482afe93115b345ecd2bcfbbd1317f7,
    0x051c91c3f9d7e57eb786116c8545f90fa67f5e8b62c32ac4512015a20711364e)]

/-- Block 2: the points 1..8 times 256^2·B (R103). -/
def romBlock2 : List (Nat × Nat) := [
  (0x5de7faa2ee4e70132f541f79ca07cd54a39fe1347a6844d19e9d678a8411a565,
    0x2c9f23641e1c2e0aab8ea9926b432d92c0e8bc08901d6ff6df85e4cef854ec36),
  (0x74e337a01c13b537323663602811d1d532d8747e81489415271411b172d04f27,
    0x08648f02b3a4daf96ecffabdbaf3599fb2ee85dae253b2c21ce66796114e25f1),
  (0x73ce78c748a872f2a197a7a16fffc81c8814e07e49379eeb4dd94e4390d7c290,
    0x33c172e606062ec6fe3963cbf960e070ceae653d3fbba994947de13a0a0cb2ca),
  (0x6a6fbd51efa6a855e82cb0142325ba473fd7554aba208a400737475464f29434,
    0x16f5f8529f55fc2b7cf811161d7870ade1d1617e52c3c4f579ea06b27616d671),
  (0x455d905f52d04b5ff74beebb11d774b2c5764a4dfacc3bca3445532a8f320ca8,
    0x033dbf271d5fc72b69bc227bb0c7913b1eef9baca6c02854657460470fe6a8b5),
  (0x584e7f2a5e3671737f705f1a906dab675706549e0491e9aaf264643dca20439a,
    0x2e5327982a30dfe81232f3dbc0e9b8843347320ec0f65d9622f8fe4e547c1381),
  (0x7783d619f52f8bd4e0c839d8c7e2085d11ce2fed6abda9a6666e57c725de8fce,
    0x7b87c33701d609fe8342123d99e9ebfd4453ac1a100d8238b005cfc4600c5c4d),
  (0x243eb188de73a5549b32c39d2ef1b29623709a9ead4c0e240314e0c5f69a9634,
    0x3779298951f452d801eb7a0b7eb224cca2dbef041081cfa582afb25b1f4ce2f6)]

/-- Block 3: the points 1..8 times 256^3·B (R103). -/
def romBlock3 : List (Nat × Nat) := [
  (0x0af367956af630266b1cc760154256ed79da960dddca9d72a1e8cf27d8d43a77,
    0x21108d900134d3b3708dd28ace96b0b23dda9100e4b6a62a8131bd2f2ba408c5),
  (0x2b760154fc5ceb5a64141345f55b1b57e5b0b1d6c5a07dea8ddf074fbae70d33,
    0x7dc81af96fed42e0373411203fa2ced7629fb2eb6a2054e24afe3696afc20c02),
  (0x4535c89311d604f3aaa0e4d88d9d7b514f3d23c8f1d3dccac1423f36e811b9d8,
    0x69dd3661ba84b8e1aaa20a3d90806ac9372d33d5840f6c977aa7bf9008d63661),
  (0x67dbc33418bbcd3878489398639484b6d6fa42f875b8c5af23bc92c69c5bdb6b,
    0x38436fdf8589a33059fc92e7ca7aa2250cc9ea48391b1e517c6fb056093af396),
  (0x69f0b68125b9ab0c6ebcf63389c5cfd7621379497a1bd8bda3aa49b3ebdd1011,
    0x0d2a89a19c28174690eccac4fbe32dfe444e1ad763c55233d46b7a47dc3669d6),
  (0x34d9729a3945d42cd08c6cd2c09f8f53dfca8d55031fea67189d5ffa5112f8eb,
    0x65efef05bd03d24eb46154ee50e168707c01553364e760370db3cf404c6279b1),
  (0x271b64006d3d0282832762a869c867f449f0888797e6108a58e30403c96f4e4c,
    0x6e0746310b9c01c2fc648f1039d803b053ef2e7903edecab328045df50bdd7d9),
  (0x29ea44a50a4b47b8b3dffa01dc5f2271d5439ba8a82a6ec0c454e9bd19448479,
    0x6c775ac8ab2eda8cbbdb4bd1196ab24630ac6c1f97389de19e9d5f63af509005)]

/-- Block 4: the points 1..8 times 256^4·B (R103). -/
def romBlock4 : List (Nat × Nat) := [
  (0x4d1e116d136158c5ddabd4276832800f2c081c1072de6f2d931797a46abc0cbb,
    0x6d415be49d4e35b65cc51354b5008f8c43e84b7b5e8a4b84f44e1efb10c9b91a),
  (0x4b5bae5a77a867ddbee3944524f8e2ec8c2a6172c14bd432cd42148248127d15,
    0x739476e0b38471219875a4580e6742ecb6aecba57b8c0fa0d923b8de209a77cb),
  (0x28e01e9eebe624f050385a759882d4f1ae61ab87c739ba5f1f167e5a18ecc8f9,
    0x34a3ef208089429b6293a7c1ab71048dd3a1b4f69b645e2a7b7682a0a58a68c1),
  (0x33bfa90cc1b9df13e106ffcf6ca898d06b22d51df337243bf85b3f232869fcdf,
    0x53b120db6327cae59fa5fff109017d2df4acef01d2f10981439d824fb2da81d9),
  (0x6759a4f961d6ac87116ff682cca6bb2af36ce2bbda2202c694f70b4a1110cc99,
    0x7e6c7c2dca5f44c7b2591211600036d4b1011a2605be16633ca43f61ecf8af35),
  (0x56bec703109151e787690e04944ce775ea94874dc7aa8115f0d434a9ade80267,
    0x6ab2ddd0750778ccdca656b4f3710c05ce7e47706cfac82b512e6b33ec86fb32),
  (0x4bbefbdc2c60867dadf3a817a029c56305dae0a7b5eb28d0420bd6530a7c82bc,
    0x6eb85cc89c0c2dc979d1ce5dcc3e74f7ac3547e10708a095040e3f6849538107),
  (0x444929347c2ded029bc19558b0f69a4492017a9c35b370711e08222bc0b9efc6,
    0x77785ec5cbbdabd645a3251e7da57c8ffc39158c0d7b25a4211c2aff2e1d6245)]

/-- Block 5: the points 1..8 times 256^5·B (R103). -/
def romBlock5 : List (Nat × Nat) := [
  (0x0f6c3a96e0032a9394337a02ffb2c83ba70efb8f566feab530fc90fa3b4710e5,
    0x3d4e97e286378675038a4b58e84224ee515e1d6697ac79389f78479be167635a),
  (0x3b13c71c2a90bd24c51df6bd138c5d16208a9ceaaa8eb34a69469fade6abb440,
    0x14890a7ab24817b2bba826792e8fd342a6f705af800252616435be180d16dc54),
  (0x7983fccb8fdffd787f669568b35189d08fcc6194c31874eddf3320f5fd1d642b,
    0x3c0fcdb8f1b0cccc2927571daeba50483de19ee5579ab5abbbd963226a436855),
  (0x184b48cb455000542259174da9a6eb83a928b2835182278abb6ec091e388a820,
    0x3ee0e07a03dc33a9dd60c2682380ef736679a5e383faf453fe324dba26e77c33),
  (0x5d17bc7ae6348ff1d88f460eb1a18752c3ff569529fcac8f4d862364b859c113,
    0x53daa8c1f06682f6163309add59e196f440503b0a5514f1785cff1ed5765a23d),
  (0x2d86e1368ab546c9547c0e0e1a73691984c2208a53b4cba3f48747ad656376ce,
    0x0b2538616310b0bb96559890a1e5f8488214951a9e1f77433bc14429f04394f2),
  (0x5260385be84291557508c683f0e59b8940aaaa4692cf5b1ae4884369a69769d1,
    0x3d894f1c3c8b531d0473ec10231031a8ee3910a63f8a9e4e7264164a69a476bd),
  (0x5a04ae1195edf508262196e9d23c259c937f81769b2258542b78e3c0fb135c34,
    0x676667092118acccece87e75f0a6825c5952f92dd499943efe831f9712c5e8b9)]

/-- Block 6: the points 1..8 times 256^6·B (R103). -/
def romBlock6 : List (Nat × Nat) := [
  (0x52a837bc7a7bc9459bcc2ecf80f74d9ed99def0342e18cfbe8e799fbc504fd52,
    0x50d6460185d8924e5485f23f36a98c86053514d163547adab6fe91478a411196),
  (0x3f30ee695b236bc74620afb10469324b45c8201a45cbd6954239e64086f3cd53,
    0x414231531dd52e5555640faeae608c4a0c205a04f56d187ba80855dbc0478370),
  (0x4fbfdbab005592c2c974a2cc3fd1b4ef7f8db640afbcdc838b0a78966b88fcca,
    0x68ffb955a83a0ce5a55313f837bfc1ceec03abe700fd1897a40265662d061c93),
  (0x0ebc38c54fd6aa12dcc60ca5c72ed865b7c35a6bfcf98778c235307d306de6e4,
    0x04b3a1d9f2ef40fdb3e31ddd56a08526dbda15a4f58d78162c7bf23886763ce2),
  (0x14c053b040dfeb348ad42bb65738ae4b07ea830efd00a617a93185647241a6ac,
    0x7ec77091bc60573797e7d29c6759cc88a8795b8fc77cfe47f428eb9cd0eed3c0),
  (0x6518baedfba8e047c2a5fd2dd7ab3603d3a1ae44fa7d61ebfe6f43240d99fd8b,
    0x07388f75389963a211fbfb657c328754d31d66911cf34305a79e74b4a4f04a46),
  (0x78ad307ea1d917594e22f8c331222feef87d6a4c60846ab2d315c77bb5d37d53,
    0x601b077b6cb162507fd2bfcc034047bda0c48f978ebd175341e055e212791a2d),
  (0x3b75696730dc8d8cfb7ddb23241cc7ce78a13e6a377db5da527a1058e60e49db,
    0x34d031744cd2d9cfef9f9ea654000016fb3e8b4a8c44198760f46016166deaa9)]

/-- Block 7: the points 1..8 times 256^7·B (R103). -/
def romBlock7 : List (Nat × Nat) := [
  (0x71dd75fe35761c01a48597ec730bc33237902fd4ad8612cbed1031eebdf40de4,
    0x39674a4532078e34378667beae5cb55f814ead9bbaf7e01b3b69533e9f88a411),
  (0x300d6b0bd6734e6170b814d2f28c82de4a2debb1c5589bc8b2671e0320587090,
    0x40ca073d0343190c7f042b83c7bcabd3fa997de98f4bf0e2bdc4a7bf5c55fc81),
  (0x0ceb59a95601dd68d84a34cf289ba4bf943583e7113fc3374433b7ed36905232,
    0x1a781b6de1c34ced784426cce7055d4fc9a4f977b025f8a0f993582b61615a85),
  (0x42545a6a59885c28266ae07652d24503c2fb5830c85817f6963981168cbec8f9,
    0x706406cdbd1ce0bdbd9ea269bab2e060b129d6da0f1e6983fb9b15672c2eb507),
  (0x60fba0618ab41287a32799f605665a8e8ff9f9f986e51d362c1ecf68a8476ff2,
    0x50fee504978daffe84637a29ae6d339127f584bcceb8b9a6b88f645080245d2f),
  (0x7e97763970e96e86fd444e2b16752f6d95def8555f6f8f25c8278f89e18cfa41,
    0x0e85b4c08f01ee8f8c01916e8d44ec3fd2938c6da58ad86e79d07ca1146b6217),
  (0x0208622a2f72f9fb6c09d6f4c647af6698cdba3b5daf6d302b3d2a0b25764cb8,
    0x14467120e8a31d04aad8776ddcfb459dfc13e47201e1918a9e1c9cba531169f5),
  (0x6c1262e3f8a43b517673a0ce209f76cb22d7cd7e54fce6ac235711e441703a02,
    0x193841cf1e0f528b9a8d508a276202a84f1fb096c5ed013a7f486f0d269c007f)]

/-- Block 8: the points 1..8 times 256^8·B (R103). -/
def romBlock8 : List (Nat × Nat) := [
  (0x6222bd88bf2df9d5d44b60cfb4a08a960078db7ed51a35eb3e0b6b8ff4eda202,
    0x0325bb42ea4ed025dd6bdaed261b7c4f5410b608ba902b068f1efa5782e45313),
  (0x023bc7abc84cb4c4ae5fa62b25a0a8114e8406d9bb93f2091142aa2d8bdba597,
    0x4d2b97a739eceb14c95020371d7206e904f94b8f2c620dceed8511df0f29c9ee),
  (0x132a065edb5c4041c59a8b49ca8a61df2ca8caa6ccea10d88007640e33263467,
    0x534ef70a3532f780762d6b7b85e5cfd1b390b0dc31fe8ea59865fa3e1dd7de2f),
  (0x6d5066cf7137b4a5980aa453b672c84797fc6856f0ef5cf0c4be33fbbd39d169,
    0x54bb8cd82a0a87c883abe35abeb81857f95200b4222ea95b5cb347115219a417),
  (0x35ff8f7cdb0869347f58215a74ba0a8f63c0310fb99a0b275072429c7b04c2cd,
    0x50e1cc6871155f055469e86953bb606b4e1b5717dfe1a8a90fc49cbaa6ce8b8a),
  (0x6c6365c17f4bb26f6b4e87079a8328e54012bc64947385a12af2120a622e0213,
    0x1c5703a9d3d1a968c8320a0056a9ec8e08dc332a60b8d3eb0309499e5494c782),
  (0x68b818a50b31d52cb8300141be7cea83479de51848c1e18f3b944c675bd887d1,
    0x1e8b233ec00766b228ee74d7536d8f439685965535addc774728e4dfed398826),
  (0x6b66159ac8702d4e34073b76629deab2d3aa50942db5b00e4a73e8be859362a9,
    0x19dd4bef38efd504e49b3a5d584432b9ce630883226031e75fee1a22c8ca96c5)]

/-- Block 9: the points 1..8 times 256^9·B (R103). -/
def romBlock9 : List (Nat × Nat) := [
  (0x1f6a1fd8cc0e05b2742ba0fc0369b5247670543637dd033e64dbce90b2f23e9f,
    0x779964401ee869a9b31c0ef874a86440ba85d25c2ce932bd31a0865869605e19),
  (0x6f0a87af6e0f4a05fa7067cfecd4f98dada3791f714a66648dbb5cbbfd4f326c,
    0x6b6013813505927dcbcb6a42e887cc1d5fca175e4cd226be6009248c6c6e36c6),
  (0x398c8c8c8e8dac3256749db66b66cb447486132ec414fd516b4eaf0a0fcd15f4,
    0x7fc5e88a596b4265adbfa221d1f69e234140e3fa1f3b5c39f76def111a7459ca),
  (0x1f90c7ef4610dd083b3d64bac47574d9da326b536b9a6eb0f6c3134a847a0564,
    0x63344ccbe4169ab97a13c3ccb097c0f4fdffbcf6284412303c79a1c8ce3a2f7b),
  (0x3d22b58c663ea91b49e95c17c7da1563cdb6c6ad70a46de9e2f59fd686603f08,
    0x7240c7e82ba8372733d8bfe20d176abda80965f9f4b7c7799742b63fb03b0eb2),
  (0x6e6c09db77eedf33e50185bd1bbcc0b0ef7f4f4fdf4b79ca47645e86f1900608,
    0x5640b667ac2d72e3ee569f906389cf8bbad999a4f5393f0dc1e0eceb9c916f07),
  (0x0a8728e5d785180354c86e453192f0f76edc78727d7ffcd4b5009339d2475746,
    0x7ef39552f5076702a3ea621039065565a0d37fb09323f708ccefd41cded490c8),
  (0x47ac42e7c59481a928348d7aaaade88b00b7aae4e73ebe0dd20e33092dd34e07,
    0x28a6c1d1356c10ebea15cbfd161ae974f3b2a4f51ed06403c2f09bb58f7a8924)]

/-- Block 10: the points 1..8 times 256^10·B (R103). -/
def romBlock10 : List (Nat × Nat) := [
  (0x608de273a9f6a534219d7aaede3cf65a81e4dc03d7a2765eced1d2b7be4610f4,
    0x3b31d0113f98d81ab1312fb2837aa9c8dcc7960f84eb371358c6d841f67144fa),
  (0x08d1e75a33bf363f2ef64faa0ab5f9582d1181b793ec9452ea93a3011634d581,
    0x47dd939350f06a41ea9c3d889d127155d0275926d05b5bc43977b5ccae42cf1a),
  (0x4b55df555ef78ca29bb08cebf74ce07115205182089d86efa70c3f0dfd1da83e,
    0x2faebe97416b3b52a2e97ec02e0f2e684149bd6d58143aad304e6e8cdcd6194d),
  (0x0b2fcb60a19e6a0a29bcc1e5224ee0acfd648e6ee2143f90a5f5aa1c6d51c96f,
    0x6301b568e9c613866d76b4c693de25e83435344795fb78c3c5e944a1f33239dc),
  (0x6d187e11aedfd714ee4dea3643b18b006f965f8058ebf3484c38028dd62ec76e,
    0x3607198a1819dc40a27d5237f93e5e31070512d561d0bc17e2e0464f0c1ce745),
  (0x4db4418f87f778eb75185d9b62e977fa433393aa9d266f51081cd99764529a1f,
    0x5140b9860c78ea8062554ec86e1edc7ac76cf7cddacfca01ebad13e93e82a813),
  (0x6e1a9bb685adad8d9971bee76c48e9724966d0b285f58e0d44431dda40465406,
    0x31ef82c7b281aa8d9f2c7c3ebf401d507a4841751f3e2bcb19039e6aca5e83e8),
  (0x0b216ceec26c5cc827ebff75a3b41630d8925bcf8ae53c7dea348f4c0dd3ae27,
    0x563053b0dec5518f24c57a3f9138916ec287602e8a557819ad77aa2a5312bac3)]

/-- Block 11: the points 1..8 times 256^11·B (R103). -/
def romBlock11 : List (Nat × Nat) := [
  (0x69d98b5ecc35d56c97c0bf312955d199befe116b417d70f5f57e2dfd0af81ce5,
    0x3e26d487fbfe36ab44e0ca3b248fe94bce92a69b8154d50e2d5481f8259f4e8e),
  (0x62a8a839f45660759f741c7892703326e4ad11bd9e102c0770af6ad49dd4b6d9,
    0x3d45d6c61b8a03c29d11cb1e9660112995fd3bc8c1553ae897448b613555bf3b),
  (0x5ff031a9e8f4a9a28d7eb3a97fe4334433112299c6b825d0a55d144ba1ee3347,
    0x67c7ce2874df5ab040eae515ee26eb81252dae3576ff40d732927f6f65c163f9),
  (0x4e1c036204e123f311e8da4e3fa212fcf0acafbded425b71a66b0dccb2500e7e,
    0x6a5908d961f00a62a2ac904fd824f6932f0e735f257a7d0d273d61736f1bb1c8),
  (0x2ec34149929644706035f41d422942c1e1fab37c0d6ea35d040adb65174136b3,
    0x2ecb17530e69ea2cc55c3c54a78160f272e4fc3dd40e3e39b3a33c31999aba40),
  (0x1216d39000ebe44ca69d80a6ac293855e1cf96c550e2e20d518a520ab77d56f3,
    0x374132be82d973bd7043aab912324ed03b4bd0d9a649e3823e78f4fa151fd1d4),
  (0x3cbe5d79f358c7e60396980dd1058282ee0a12a7ac7eb90c6467f0362dedb022,
    0x2aaa635d3e22c2e6390fda3222be6cc5aced55c60e849e2f696edd1a92e82034),
  (0x7fe8906b455e9f3a49464810d3e6b8e5fef5d17226ddea3b18f08e2ff8552d6f,
    0x1300ff9d28f135030203b137ea4a3ec18d5dd0dd6b29a6ee7040b97b336976d3)]

/-- Block 12: the points 1..8 times 256^12·B (R103). -/
def romBlock12 : List (Nat × Nat) := [
  (0x51f4ff8c599b1c96da82941520a9f5abf4a31eb8b84fc95056145ceb3b5775d0,
    0x35ac9588d46e41f3f6f99aee3852eeb4b12e807807d4bd1b7f8406b0d7863ac1),
  (0x568de690133ca63f63c08161d852682fa5696c0ee66bf8f3ec729b6a71bf9741,
    0x4c48220992e8e64741dcdc433a0e65b43a5bae7f4d743e3d1bfdb123773039e8),
  (0x4f2f4b477f6ca632750965a4f97d966f9bb1a9e6faf03f479fb206c8b59f5785,
    0x13115f873b8a8439a16d3208a70462c16ae38525c23cccf25480269d9359e934),
  (0x3342c4717d55221def46b89fdd237cf4e9528170f9b524bc6e730cc4663403da,
    0x50676cdf00c935368d54ccf1fa7dd2671cd7ea46686e61fca49dc6a85b6937c5),
  (0x282a400973b64ed0a93070fdba88d599fa2fd0541f48df6e99fb0fb8f1eccccb,
    0x5a8a95d8ceddba93595c9fe01ac6bfcd9acea0d1e0c3150c7f562dd27aa84686),
  (0x7aaf48f59f15c20d43e5bcc0a9f0d58952bb338e8186376520c29d9ed297dbd3,
    0x2765ba6a9e76638c36149c63bfe62de38a8f0ac8e8e0934dac69896bf1a58d6e),
  (0x0336498fbd2b4355ce5f8c55891b959133745f4cd49f7c39bd4d979baa2329b4,
    0x653338b616279ce7e44b1c37969b109fafe0fd52fff48d9aa1e08a7c5dd5cbd8),
  (0x3396978bfc50b33d58eb8dccc52201ef36dfd27b914d8aa86f6ba45d29424d9a,
    0x5ccf1359113c127dcb9d35bf9107cccb453eac7ca7ddbdabb1d0ca4ac8073393)]

/-- Block 13: the points 1..8 times 256^13·B (R103). -/
def romBlock13 : List (Nat × Nat) := [
  (0x1924416956ea2c1269062588569b18178011ea7cba1a3266284f48aa01d5a90f,
    0x0c8e28127b7dcdd206fb6fee96eb88cfc7db7319826ac8cdb8b1fb8adaf021de),
  (0x2898ffaab663ed49ec57038cecd898fb84076bf49bf6f5c4403aff28ce974493,
    0x094f3b96ab6c9477e759d6bcb9934557e613a0f4fa4fb6c6f4b3bc46f335163d),
  (0x59de4b2305d8b7af6da1769d1b27473ca5ced8b84b82a54cebfed2e98c19a76a,
    0x4078b0875ce149844fe1a6462deca6e4316be1259c1726e94477e2f9f1dbe4d5),
  (0x34e2ddf5115701105d5d590f6617ccd7716c01b247948470c1514f12016bf75a,
    0x1bdaea88b78eb71777558f7452cd868e6d7fc33a0f85c3d2038bac585c1fd926),
  (0x55eaf5fea101c94fc2b9234f2b62c5786056bfa6bc8a23e59979b303eaac5b05,
    0x644f4f10c2a13c7e312a68927484d2041cf62a6b2e579ffb291e32fc1e0e6d82),
  (0x5726e2adc5bbdbf0cc76250d1c69ed6f77f96d075a84616a35792093400eeab6,
    0x79735f155fd92f05890ef8f0d6ef865e8498a950d9a93cd127ed7d966b0ee8cf),
  (0x2fab7584f9ebafa144803f10de981adbfdce1f5eb97c95d29927c6b674fd1963,
    0x27b70248f415f448daf44f5ab0b237645218ee698b29652bcf59da2698c7f981),
  (0x4cb56bd83d7bb25558c34ece98dd878ca5fe850aa79f4bf656269fedfe165cc8,
    0x5d1f6fb463251914535bd81a9f9a8aea4d5ea5309b86c4eb8fb4a7fa15a03865)]

/-- Block 14: the points 1..8 times 256^14·B (R103). -/
def romBlock14 : List (Nat × Nat) := [
  (0x4339fa86a23242851a16afc3ab05b352a7b4bf53599a49dd7e29d364fc3a757b,
    0x6d07cc3462bae9160bbebb997510817040767faa9dbd13f158a5fe8a63a34b0e),
  (0x62332ee4f8ee5e56398dd304eca6ffbcde556467ba2c0d5fabb64e9736c701eb,
    0x3e1bfb3c0218cf9f7e6a2f47f179f29b0ad68235929b4921fda74bc89fb8ef65),
  (0x33287cd3c57f3dcd485feb019177d1e96976c619395d27326d1a396aef810769,
    0x70f3e2be1882489b3126ff2bf72cf74c5f70358f5633299eac146fea1c371cde),
  (0x7b9e0081b2e20f4f3d3f6d57f7bf977b2f192142a2a9e40b1aacd15140c88b2f,
    0x093854716ef9794d2057036ff3f97da686fa3a1784c42279e8abf1fcc42b858c),
  (0x1c70927aa306eaf587c3ca6fc2d4c6f02af2119e03129631180e4d47a7c2e55b,
    0x2e259ec780da033e55c0baf4c3b4d80268e870d26e6eb1c10cb5654a077444f0),
  (0x1e22f8e8551eaea83b689b626ac089595eb5ff9c9bfb4c3c44e14989f13c72ec,
    0x121fd5fd0c3ab08f0d82a53987aac64d85a071f32ef0d6daec0117e4d3609883),
  (0x6237e93647e5e784102427171f6aace9270584072224661a326062a41118f91a,
    0x438c3caf8e404f0c55d817948230e504be55872b056d36c7975d165245f5b2fb),
  (0x7ecfa6b215265291f32d21771e88699aac3133fdb93ef3a479f95e2fa8742940,
    0x10958b5cdaf36afe557b7e60184207ce6d81883edf035bea63cb7da46c4720c6)]

/-- Block 15: the points 1..8 times 256^15·B (R103). -/
def romBlock15 : List (Nat × Nat) := [
  (0x4da4821314574d4fed4dcf692c8b15b99b73f13633210333ce7871359b6e6424,
    0x314016034673d2d20529bc93a2dab6e462bcb5f66e1f4a6bf2170759a40a6e65),
  (0x22423cb8e82129da6655d94354181feb5b1c789806240b135c4da1bd156d734c,
    0x627dcf9be9be798eb639f6b776ce9ef34573c7a7f1d1ed220b1a23156f08cdb4),
  (0x32beb4e36411f53e324ddbd920d42bd403e93f61e3957ca6fdf1bafd72fc5b92,
    0x425a36157c40b8503cb9a0e61ada1359e9a6c43bd0392d6aa5101fc9e7901786),
  (0x04230253b946f9c176ea49e7fe2b913a35738999750b1e21555104dcab320bb4,
    0x04db9dd92f8d939e6e4d0b0245ef57a62d793b173e977b8fa69558741d1e5afc),
  (0x65f711807e58866defe3423611cca254bf4382fb1e50e54f50833c62b35f9f4f,
    0x066f79ccc68c4d222542315abe148d5fa57f5ad3d0b2733fd35616d7f9d9637a),
  (0x115b217ea5058247e884bdc6a11628b6b2122a7249abd7f6851aa4052f89d69a,
    0x0d6e86f3a086b7479bd12ef37dd90d3eb65f06e7a9e6c90bd2804137e9279f1a),
  (0x1e90739a6bbf8455cbeccfe11a1fce59c64f2315b4c51d17ed1ca0b1d181a9aa,
    0x43299d97384722ca513fd249d8d69fe0c92f1282ab313cd498a5f82287b7869c),
  (0x63b06e648bf7aa8e8bbf75c0f3e0bc5d438683b063be9f4f09de91589756d7c0,
    0x1b17d88ed99541bf1b2cfd50b7d4d87ffd627bb708d0c2445c68249be08bae16)]

/-- Block 16: the points 1..8 times 256^16·B (R103). -/
def romBlock16 : List (Nat × Nat) := [
  (0x4c27afff3c45f32c952d3984e14e29a098e685c9c2e723e5fc8047ae60b7e824,
    0x5f2c99e6526dc87d95f11eb626c29c3a90d0be1e51a4c49e5bbabd114bf5a66b),
  (0x786be30733efdaf7a08157f7907d6ee4f6952c728fbfa269fcefd1b43224e085,
    0x653a5f772f34985b34270ecdd4fd08472a7c08beb39d69be4eab0712c63e2736),
  (0x09c186afb833951ca2fd3aa58b84f09baea4bacc8756d94b3125ca89f193c7c7,
    0x6137b0746027b353934695b149864a1e02a82a6bbed54ff11a349a357f7b062f),
  (0x21fee4804968a933df8957815bc8dd9cc6a4d06beb4d19b36cb822f04c2eaa13,
    0x500b7740072cb51d416c5da150858339bda5367a8972c2313060d3e930901700),
  (0x4a2e1f96eee4e082b813e0365c89c9e8eda10ce5973c99554919e3a2b12d4f17,
    0x6c3f24822e185c5b8c951188bfdf0da8dc229e517335a66444d4b832ac846fc4),
  (0x5dbd3bf95494d7466af195bd869d2435462530ea6d0536a0af41449ec0ec3464,
    0x56f5f77776e9fbb0863cd8c0a8992ab9a342ce2a7b7b9f8c137ce1c737e25b77),
  (0x4b3702044575d3c0f1f2d57df9771cebb58e011afd275e119370badc76ed5685,
    0x54333c50acf332f52f427a80e5606aafe36dcb0fafcce292482027acd289b820),
  (0x77fe8a5d490afb6ae4a198065e9488f8c358adacf1dd564e28b7136e1146b3df,
    0x3c530f01e039f3168ac0033395218d9122acc9fe0a3545ba6d75c5afa5f50246)]

/-- Block 17: the points 1..8 times 256^17·B (R103). -/
def romBlock17 : List (Nat × Nat) := [
  (0x7b8d2c823baafe0d878a55e8af1db150dec85b1424a4901f9beffd3a6196e3d6,
    0x1c45a557b3624f9b89ed15b3c3e1a065f1b453d948f7cf45d9494483f8af0c85),
  (0x5fa2b1dfec51bcf38de2510adedcc695952f36b9900f13efb45d1c3cd099c188,
    0x3f81faa56dc388bd64de21b25252d72f40d64b90bf427b8569409b7d23a1682e),
  (0x3780a1d4b6b5ac99a5a263d5965a5a96a82361031f6a4c8e2a8ac70bc7009528,
    0x3aa8dc131e63258cb6fc9f36900ef3b98de318d6652cef6d83b95fea238825fe),
  (0x1f878c9bb777a0586a03dd7c310986d8f6ec21f7ef82642e799e668a7b47fdfb,
    0x59479937cae12df41a31892ac4bf58b9c5dbeaf4e0ae1dab3421553da8e44755),
  (0x58458308ef6c0a563e6a18fd5dd19e38bec30919d58bd5a3e5f5571a8e1c47ff,
    0x259d664d2b336b78964952d0ce2309727544e8326beee6860fd626fc2bb1c02e),
  (0x333f8eef2b1f715f8f719c5733005103407d7994a7bcd3e50763ff13e0665cb0,
    0x131883d8fc4cafaa36d64a9b19ee223097b2a1b287fc33b67087f4107b4c7b5a),
  (0x7b10e1d26d95f4a3ed81d68d5b08e51dc82286e11eaa0224979e22afd443ec39,
    0x36663875e8dd133dc940c67fd902b27f69f1a18d2489f1a8605e817ca6919549),
  (0x08e60479f7f51f3ab2119b5875deac32f750073264da7e554535a949c163cac7,
    0x1b2b6c48c2eeadcdb2115bf4ee5f90861be7c49767ba67fc96fee1fa4b22fa46)]

/-- Block 18: the points 1..8 times 256^18·B (R103). -/
def romBlock18 : List (Nat × Nat) := [
  (0x2b556bbc070b5c4bae9e575836d1d68ee9fbe800448c0d2c233f78185eed3f91,
    0x7ba01332807ebd892e00ddb368c0fa1b3f19b5b32efd90b178d984e1d7174d6f),
  (0x3f5c47b490be4e04f8915cc5f3c1fe8e5d190bc41ed00d8f43b04444af406f1a,
    0x537ce98e07428214d28bf2b41039cb54ea8da86045baaa3f077132fef32c3bb0),
  (0x1e2b1d5578437b24454be3005d3fe26af5a83ca079baef777ab98fc98dc1aeb0,
    0x41c6747ff756a8d26636c73ff49f128b2f773731a7a458e1b915a06716d6b801),
  (0x614118e22068c64a823b4a570572d49131b2f8d1d8cad3a538ccdd30a8b4f85d,
    0x63ebe5283599fec22b8d9733a9548505faa5a3cbb5477811b0651229478dd419),
  (0x233475488522f3b085400f1056f312186b541c4c21761e46b7e92e2aef773c8a,
    0x37e8d773be2a47153e03b94795d65eb7c01ab125bde0fac72a9d6b97a812b288),
  (0x318ac05007ad4d2d9a4a5e75f9a9a73cd0ef25238d9ee25f10bf037bcd22844c,
    0x6bf5a299dfb3f82734752a977bd9b6a42c0f19cd1c2cf57f1d53aac8823222a2),
  (0x1b76bf6bdb2579ab5efef8a6a3486f82fa109f44c95d04c02c73fccb0d152c96,
    0x502f67ac28825e30f3173e20d3f03eed459a686f427275365706761efd0c3948),
  (0x13aea1849989ffcc18795ff824240b157052292b065060a0b3fcf4d8ef3f3fb1,
    0x0884949c8ca12b70fbddbff21b25e570672d6ca4106005551930c101c2b81f44)]

/-- Block 19: the points 1..8 times 256^19·B (R103). -/
def romBlock19 : List (Nat × Nat) := [
  (0x1cd96ef237b213cd446f13b3ec40d32ecc593bc6ea71e77efc284341a5f3da1a,
    0x7a626aeb91efcb5f9777264f5e17ced8b411f68c713673ef0f184a5ccd60dbe3),
  (0x275d04f2b3510c56664a8098fafb5b4c950dec7e83f0ccc4832d810897a24a18,
    0x57dd6527da326ebca62ddead9b4863daa69c1f11a39c3782c3fe2e5a06b8b93b),
  (0x5dc17a1192ddf8b87994675371d8535a425cc54d3acc37195e2da501bb5309c5,
    0x68538e31bee79120e2f97fd30121edd15e38acdc2b9884b63e86f21cad653d78),
  (0x3c3b6a92efb1b73a190aabdea635754eeb5ffc376b2a0787adbc2e7d31374f84,
    0x126d49709e40cb07b122e980b9452a94055c87763b1a81e7eeac60396d94b23b),
  (0x496222725424359a98342deffb0324830e99572c6c578ed90ff3883000762536,
    0x0b370634de2b0ce61aac36ee698fd3c1c45dbf61c9df9fcb2fdc1925fd7ce64f),
  (0x2201bfeff751535d6b14f21329c1512e84a619f174e5a6596e7d4ca8847818fd,
    0x2af4f8c0bfb0380a171fb165f5ba2a76687c12bdf2fc81f20772fde64c624ba4),
  (0x13e4b9507e542650b23268777e255c6253a91d6ade2aaa93368e9e8a4550bbb3,
    0x79cf2e8f8e6b970a797a8b9b4aaa5bedd1d695916ad5fded36dad4bb274a03d8),
  (0x3cde77866cc73b07a52a9ece4832e2a02c9a85a6709f5b9d4c711de45b556055,
    0x79f2b3d77f3f44c771f685b6d3d352d7e4f20072b64efc55a957437e967a18f7)]

/-- Block 20: the points 1..8 times 256^20·B (R103). -/
def romBlock20 : List (Nat × Nat) := [
  (0x543d84cb04fb2bf787b7aa382eaab5cd8d050ad8ee52aa8a285b945652014031,
    0x0358fdc5b63ed49e693d838f182b275846f42dd49a42ec2e6e932ba4de59ef20),
  (0x02ac4c0386a424b4a4272506180181c6363395b4094f551f6a70e1fb4f605ea1,
    0x01a36c19fc30e5e46b07b2ff0721fb77ff4330e554ffa874f0074860d7de3877),
  (0x2d2dd667a240fe9e15052c0f442e4f59a3788c3ca3989002f3b3a6db62a039e9,
    0x377bd9db79c5d85227ba6d4639bf0c8d64aefd115cb838db76e8791506554dd1),
  (0x2816f8430d466b9b65d0990c2fd6f455861fb600a505f7297c8283d3ac2cc513,
    0x5452c4b45430ea383524c90ef0c66ae08745df0664ab5a184f89b17e74b47f1e),
  (0x1caeba6f06a2c5acfb1587850560bfb1e47f47bfb9bcda01adc46a6fba4bbef3,
    0x65fcdc11e7ea75774a0fcef54225dc51a91ec180c6bbd59d39656a7be98d85b8),
  (0x060c2952bf5adef4c8c4eac720dd0967c6b9e902534c8c8cac50f5d51935a5c7,
    0x10ef5d494482524977c653dbb01fbddf2b2cc571b01caa4734a84b4205427f5b),
  (0x5d41698923f4e95516a15fdcc07651f9902e3591596e892c45a537b4701f0c00,
    0x2d92794a28e9f2e8bedadeaf0b8298fde48aee327dd41077c5364780eef8bc11),
  (0x0cc495fe64bc4816637f94251df4cdee3ca74aff90c1e427744489c13fdc9fe9,
    0x42138e7b6cab977efec0d3e669437ab9e0f228d3e38c1a6f6a5e06036e75198b)]

/-- Block 21: the points 1..8 times 256^21·B (R103). -/
def romBlock21 : List (Nat × Nat) := [
  (0x7efb45d3a2851109d7a8d50ddb08fe308bbf674c019b965cdad4570a141e648a,
    0x0fe1198b11a1bf56867091c69d71f8b7792257dda321d43652e818acd0c28cda),
  (0x5d5225a5e2235c5216cebd1847b2ed69e45db93cf3ea8cf012ae918f2c983218,
    0x7ec9e5494feecd8d348a92636b5babeec6b5ab1982778140bbeebc4e5de7b1b9),
  (0x6db3c0d1a1f27fb0927da458c5094175bfabadbadebd785ee99ac3cd228bac21,
    0x07b499ecb9b1bdb3f12e8ff00f1c4ed63d34986f92d8b8d77776ba7775d04f62),
  (0x6fde98f557e3360932b5622351886a898e4639488c2433586e6b1d729a2e5760,
    0x6994510fbdad700ab9e84413c29ce02525e5b1d15be55269875bf94a48002c8b),
  (0x73d4d9f5b9708fbdfa3457f84ed45d4fd9bd95f1a91f076407b07c406ee8b4d5,
    0x256e14cee7d41e0a865df1a6a2d03716b20fa52b32cce3736a17c7fcc669e516),
  (0x5c3370c184b6f61303b2b6a3cbbbfb9a2a154ed321328b0350bf43a6a211a8a9,
    0x292a52d9e93324005d35aa45dd11ab1105896dd9390331387e76d7269a0ad07e),
  (0x0f9df8eef9562ab6f14c70c8bda2f490d3b5f23743fb6d40f8bf09f014389c99,
    0x42ddc05b73970fe43751b75a52f4c842b509ee407430296edd9a674eb33be730),
  (0x705bd9027e77d82d951c8205d33a5b3c3695fe7ee70833035fac2d25a9abdca2,
    0x1417fa0628ebc3a194ca46d423ad4a41cff08879e02c8e51e0d6cd670c1bfec2)]

/-- Block 22: the points 1..8 times 256^22·B (R103). -/
def romBlock22 : List (Nat × Nat) := [
  (0x04892cfff7f94ff7f07c1241e3ac4945bc46ea9d6a3c1c3adbce109a9afceb6a,
    0x3ae2aa25e2555135a7a3251c11a3f8eebe81758bc1c3e2cbc6e6ca461a543130),
  (0x60c497780d40c8b1ba4f5dc4a2262b84528083f770b07af0fa76098a9f1048b4,
    0x22fa44ee0eb502084f6ca208ed0757572fa5b25d76f30b5f733840c7086cb1d4),
  (0x7d7225dafd9c43b59f53de50a2232f2079fd512ec2cdc0401d094d528a5f7598,
    0x63e030388d50aaffa92ef62ddd0c7c6977336f22ff2ef9ede19db18d4eebfb4e),
  (0x480d816072eb67bfb2aaa781fa5316978947e10deb8b7f3165561904a63f000f,
    0x552d0f1d6bda43b57e73875b499952c016af17ac436baf671e5684a8cd33137e),
  (0x148a7d88b200dc224b62a923b9f58c9e323f4767053e57cbeb3b3f7e95221da8,
    0x4f4f0b1a20843403c646345be083da0f8f802af55314659e2b1adfead4e889b4),
  (0x130130d18b59ca9d78a8dd09fcf85f147e1975a56930e1cb1c933f84ff1f58e9,
    0x29c224fb2db0a7452b55d9dceffe465a8911d9d59c7059007099894bc50376ff),
  (0x36c2e3fa23db337fcb93fbe309f54f2ef651bd54bb708fd5c9f838d46484879b,
    0x0c5c488542844d3587d1934428ef0eb27c2f08a72787757c7de13ce53eeb864d),
  (0x378e98824a6bc4f1f82d26f746906680086caba8f7e0902b97c482ac0bf80638,
    0x114214780d621d31b86d6e60fe7b92c48ea22834753d0ae01bb23fd4b8eeb48e)]

/-- Block 23: the points 1..8 times 256^23·B (R103). -/
def romBlock23 : List (Nat × Nat) := [
  (0x0ea2c846a535a115972161612a192588d92d68a3c9050eae91b2817b94e68325,
    0x3b82a8337b05f11bbac176a113be183a50a0331f3d3116f24b971b5a8b0d031b),
  (0x561d2c1d673a0e91876dad49d7c6a6c6ddc4068445226d2a0e777dbcd25c5f3d,
    0x2dac09925d76226bdc776a3309ccecec6de6692370dbd0de19e5d2d4cf747afe),
  (0x70231a092565f0c7b906e37b3a2987d2b2d01cf9efde53f402c033c6e4ad2af6,
    0x1df8dc634575bb9652a7c14badf523565c5b6ae551176ee1a4610642c985a6c2),
  (0x140b6f1e4bad46896617dbbc2d4b1bedacce412cab91f0015e12dbd3eb171523,
    0x444eb3598ccaff53dc272b0ed8d7543e1270b04a5da34f1822482d77b6bfce11),
  (0x34bd49edfa2dd7b810ca6bae43163dff4f4f945d01075475545652250ab38365,
    0x73feaa96bbe61e5e37897c4dee6d4c8eeb3d675a060e0b678d1a217edfd34c25),
  (0x70d99008ffcb5d61ae39921364a5a374810cd0e2157fe6f0bb5a8e8a83744eb5,
    0x56b125243a0695932e329af9219f827103983b62141df7e8bc8ec54e726c32b9),
  (0x7b50476b0a33709bf8dd3260cbf7f16c2d41e6051131ba9ca3f3abc449a3d1a4,
    0x2448c3ec7026fd42509d9012a2f18623b4ddc9d21d8bdf5e57b12a1e8baa33cc),
  (0x0a9fcf41f6ef7ccb545e615e1335443229a1822845ecc07e3921b2660f617607,
    0x732fb4faed1673a8d23b79b5ab9356c18c586f395d96d2249f8ae6c384daf9dd)]

/-- Block 24: the points 1..8 times 256^24·B (R103). -/
def romBlock24 : List (Nat × Nat) := [
  (0x1bc7af1e38185e7c2d8d04371c7e177d7a9ddee1b81d7d26db7ad644c7dad28d,
    0x61d909d855661f2f7a5eef87795dc0491d027e12631b270fcaf2f65900314833),
  (0x06bce245f8c2596bd228355a6bb8a3d9f2fa8975d8daa7d00799938218028354,
    0x3d26989cdd0f6da0c92acd2f10754858c2c9418b0de8789496fc955188a3c065),
  (0x7665908aaf4445ef643c3ac9c27ffcb40cb0ef0eb7dd6eee7ebd89041b29662f,
    0x4ed18a7c50da4546ce17f8064f02b40965221938b8afa4137083a00e4b704ca1),
  (0x0a09b36eb5a04aa90834f3f33ba4e630e5345cfe522b910f5d9d954e6c16d4f7,
    0x3aa47fd60fa3110a24b6eb2baeed533d06ce9ee4d4373b20f3a2eb0fa35ed926),
  (0x1c71ce37638e6d6a80c8b5a8bf5649860ba162d2ba6e7d20919cd5451113735e,
    0x7880cc1c2003b2cd243dbad79aa0cfb7d40d183f447a972ce3e8fee129e406cb),
  (0x3c607a84c1df2f7d897a82f895c2cfe5120e79446c852cb1931b9e7f74cbc8d6,
    0x34518ad109941a3a2384bab489dbee184987e0a1731a060cea779a86ba3cea68),
  (0x089b6cd02000bc663ff938dd616ef7f13a17fc66a638e39c310af417ffbe2da0,
    0x66ef7206aa36dfd8b438defd11ca657e43cbe4a7cdbb12a3e78816f13e8ceb88),
  (0x079e9d5b60917d60f87ab5434677906d2b72862d87067a522e1eb2d6fc2c9fdb,
    0x16512951d2240a453126ca9450bfa225640064fca385c7583901381c04c78797)]

/-- Block 25: the points 1..8 times 256^25·B (R103). -/
def romBlock25 : List (Nat × Nat) := [
  (0x5e9ac4ab2f4a3c3526e1317f913d69e3826fe862efd0c80d9310319170c5cbeb,
    0x505f00fa8aee03ccbd2f33529ae1e4e4bcf2644fe673d0b0290ec32be5b51bab),
  (0x2e5c4ef1a12730a9788953b5079a1184a9a237b9e281f0317514b53d220ddbf6,
    0x5c1731365512a3965c5d5474a84e994ee44afe8cb7ff403517cbdc4dfb54008b),
  (0x0e2606a00097a415aae791b2311244cf33136b90a93aa9fd236c1f5395c68f4b,
    0x2dda446c4a628f1cb38fad43d13b649b6b2b9d883b97a9890ad150dbc87749c3),
  (0x4c6c9a0e8a4ef16e4b55b6eb2e728cf2afef2d38877d5ce8770ff2867bef24ce,
    0x26d5711ee5a1e88273be70d6d8b9054cc5ed2581668d5ca83eb74fd1c286ea25),
  (0x6a73b1e2a603e5fde97eb6040168ec42f0699cc8829997f59ced5142c59d25f5,
    0x6ea5ccc1efdb4511057187354b075eb5fd814ebebc00f19b915c3f6ebcfaffcd),
  (0x728a71912cf9ff30cec3335c38712a0186dc63f7f7167ea22645224fa7c36d4e,
    0x4ce95d59305cda0f62dd69c1a39357c7d2ff5e9ac64584f38fc923d52809448c),
  (0x5ca076f131f17330b476512bd0c5b4db4d34765a46b672dc794544cb218af30c,
    0x314d831f8052d08837917b9ee34cea2d110db638bd1859d0d33c4971a4ebf223),
  (0x599ba21b65ffb36cf3151c6e8662aa6c8b35948435819669d60cd77227507e92,
    0x07f59b350f668c2b6797e53f3fcdf6ddd497ca01445f6e3bbbfa50c48865a9e2)]

/-- Block 26: the points 1..8 times 256^26·B (R103). -/
def romBlock26 : List (Nat × Nat) := [
  (0x3328bc121616a9477165ed282053d203c24f4826076c638a2c6723d42c9bfadb,
    0x2bbf3f26c21b5cb273e5f4f0114c6718c5eb7291939b7697c74333cdfafac039),
  (0x3646a62ad82bd1f37a32412d71c1de8314637eea177267a0a5176fc37c90a733,
    0x24dd06031fdaa9e8e94d73adc700ca86da20ea738f7dd05c088bb8f97c6bccac),
  (0x65a10ff6a067cb76b0b02af443c57243e6e78fa83379224172f3143712372646,
    0x3607014f6a64ecbe1cbc8f1e297eecc6b94b13509c41e5d55ea669777c684d1b),
  (0x3c0c1e7beb87a53457a69c0f5985dcbee21e0acb65aca9eed7a52a980a61b29c,
    0x74e826b2f1347631922c45546e2f1973ff349a34c6939e4bf0a0b50d6384bd2f),
  (0x579ac4b5218480a533397a94f4d3103725e654d0a8a53c31642748fe1a825c77,
    0x62bfb93d6971cafcee57119862fc77423e0a1cb064fa2d095ae2b413d28a281d),
  (0x61eee376f0dc885c9e95a047434c8072d23e2a4df019163a72119eaf801c2154,
    0x1f2abf8d3ed6ec53f47428c9c745e01b8aaf781928f25cb833a97efbf8b38931),
  (0x3d12191c75243c03d0861ac632e434b3e88c30e657b6ace19257114d8a25906c,
    0x467965880e34c78bc99b4e3c57eb5e3cc07fb918632c5fdbc5c44e5e9acdfe83),
  (0x53b1cdfe23ed553c0443b14bbba2119b58cd8c555ea7bde6c0cc4c0c6d90670a,
    0x5ca6df45ad9630e4b8d5732bd06e5008a2677a342904fc587238af01f575fb05)]

/-- Block 27: the points 1..8 times 256^27·B (R103). -/
def romBlock27 : List (Nat × Nat) := [
  (0x1074ff0267662dc2b4ce65aaa0229c375a3d0d843ce9349233949581c869b64c,
    0x299be0decb680ec28923da4d049770107d42c180b460da13a7b1efc7e6d5b022),
  (0x3e63c4ae42121958f28e78e557e827a108156a81cc8b5c64362e2b362a42fe33,
    0x3599286aac87e88c8c857059a5edbac1265bc15c047cb18502ae80caa79c9678),
  (0x1eade2fa113b19d45106b3018d462efb62e3e4cd9fde382880da87be2808049f,
    0x6cc8d8212e6cca64a97c8d6d8055434354879c85b780644e70a3ae0a699920a0),
  (0x31ddffcb76711dd76c6b48540967ab52ceb13e466fc3b2a44fc17508ad074a91,
    0x221c9b9a258e4d271a0176119764072e484a3895d0508874076f36f0fdfa8836),
  (0x4af6009911d4f531a9ff4cfb6949f6e0becb4c0c8d61c0a9539dd57ccf82cd76,
    0x1ea69bf6f0ee10457e3ed9ec0a54fa577c695e93a320cb086fe9a6e40365167c),
  (0x1ed4bfcc333a75f7fa18b2fabed6f3fd969279b611d11b8de6b7a92bd11bba55,
    0x73d969f556be73a2317109388e0a18c9f9a0ff26b34b97818cc3506e47909a5f),
  (0x3a4ba693d760ae2bc9a2c8e4241f9ed15c258b50162a3665c333683fcba71031,
    0x438b99022fc522fd174dbcba6422821762ba1d0120aa1ff9790f961ef3ecbb5d),
  (0x6b265507695b3cb34c25cc44a95dd559ec0245102bad71a3765eac0f0ebd57be,
    0x3f7f093597acebfdca9d151e67d5802b991dd62f822a757af9e32951a7d46b30)]

/-- Block 28: the points 1..8 times 256^28·B (R103). -/
def romBlock28 : List (Nat × Nat) := [
  (0x75d942c04210dcde5d1bd4fabfc732d3f95568e399382c0423c83c41cb05dc3f,
    0x696cc14856cdc13c8fd7e2c5771731cbf38e3fad47a424679765c4874e35ab2d),
  (0x6d12e0dd1cd8bd76ad5a191a61920fd4a3c317245e8bb210df90a57b885fae14,
    0x0d5c9e4b74fde7802a0b836724057a5b810f20f7dac4675a4d24a3028f70bd8e),
  (0x7d04264e36e8889ec5d591851013b99f3fa909b44e6b6d1c823b9f2d199b0017,
    0x6cc9f269424b827f9c777978a9a333fabc278f15bf93fd8de1a3319ae930f866),
  (0x16c1556c9a2bc1af0b11cf369581a12d063081ad20f83407e1ebfba21f5fd594,
    0x23e38cd5158b0f891e19adebe973b5b805b393deb8cf11d7281335745ef14f36),
  (0x1723bcb3e1d150c695796bfce98ed8d56ceba30daa119302db211af2b10518f5,
    0x5d4ba682e08ebb23403980db0c7ebd78aaf775fb480250f556e689807682b3ea),
  (0x456bdf4c7423eb00e4455b4a695e9574304fbfc4aaa7a01593570fe618e77933,
    0x579782c36c68e87c2bb0378ee474638079c7d097349b5c29c0dd0b42c46c2997),
  (0x2269a46cdf0aa2113b456bbb165d9e458d4588a83ab75cf5852ea339f4412193,
    0x489cf3771fa997f21b8a11d9d82e1fa1cea1e03841ffdfc027b68f85514c514e),
  (0x66e632db15cc9b7695e73e2b94033b8d25fca89b99ef5e24436b804bb683be22,
    0x534e3c9c194cccc190ffea06f048e7a6f65e6d5c7ef6074693fad6a6134af084)]

/-- Block 29: the points 1..8 times 256^29·B (R103). -/
def romBlock29 : List (Nat × Nat) := [
  (0x7511066c0e12105a7b937c7ecef367d5afe6e621e5cabf4e490b09b7ada7ee07,
    0x604df365b8391cbca8848f88daa700b770da5bb136f70bfb0a3ea33ba386fcd5),
  (0x668d5960c0b43b91185fc90d18ad46a4515235c7185bd5254981d26ae8619807,
    0x7a66f757c21900b1e93c86e682114de2b5d3a248850958d957ae246e53791b03),
  (0x158af2b74882820fe0d48c352012a9c0e72508f00f08b496b362d8352e175264,
    0x627e7cd734b0381d7d75cffa833aeed64d2e0228cd3795254c72530bd1561746),
  (0x5089c58085e74644f85e2d03ef0759218dff976d9e8db4ca9f9522d70389e30f,
    0x50cab959cb2b604196fa7ab73094347badcb954ec320fa01522986248653d88b),
  (0x7d5f6473e7c2f3943b367cec6de48d986dc0cea56b0f6cff9b5940abde7555f6,
    0x3c49c73bc2ba82e625b27d7d595063f58544f85577b49be10061179993df2540),
  (0x5dde3f530354c53c981ddbf84741ec31fee533b10f88b9da312a4e97e3f868a1,
    0x759527498e0c4f3629c2c5cdeace1048c641349374822f8aed2c84800427a7c8),
  (0x3d5a995a523d9d0503bd7090da2084f7f34481462bcbb3ffda87f4fbb4aa85b4,
    0x706663d330b1d1a7534a73a725eb5d2bffcd5f6ac4a613b190ecb566edf58220),
  (0x0761affb1e0d408002cc427dc6fff611536e2b989b0a5f94883a1b23789b5bc2,
    0x3a6d110e6070153b7c42102c6dac97695b4a45872cc47c04392ea170812fe6b0)]

/-- Block 30: the points 1..8 times 256^30·B (R103). -/
def romBlock30 : List (Nat × Nat) := [
  (0x28bd38d44030dd9ca028b2a2f31a795f4c7a5e85a785df7847e3d525e99d4787,
    0x552dd7405c4183733ad3c4e7ccb999b4fed81b7a4444aab499d41d6d78d5bbfc),
  (0x0ec8fe27a51e6f75d4197b4711b5f17d8fc023224426a7a17d3fdce55f7be126,
    0x3de83daf93d8aa7f7675b8df61c07b3c1cf8fe6b81327c3db1ed2cefab3d11d3),
  (0x190bb443a02d3cd6de2f5e1779b552a0efff52516904ceef9b827eb68d4e5bfd,
    0x5a601f556239715dc181f5303a8bb714a3e0f2f22fea2d51189ef417484861c0),
  (0x393fb3d0b216d7a5f48da1dbe2fae37c1863636e599d725b0a4ddb6c768a89e5,
    0x4e2107bc674405da517bd3ef9605b5ef6bf72e94c7963a80241776f56c0960ce),
  (0x30d3831392a57aeefb5ee5a2459e4d493d45a8933070387e8f0e9d00957c9907,
    0x50e644a29bc8581ce7dc02008f6002ec89843fb2229e3afb82edcc64cff559b9),
  (0x18b612324ccfb5f047ad256dc97f916cd76fcb9b9579f9ebdd1f3d7b00d6838c,
    0x4b6dafa36309cc7dd128036930b3d3617474f1760d0d1da20553d75788f5a8bf),
  (0x6e847af3ae32676a9cea02217661091b33b24bfe6073c4b1d587b2eca0b600c4,
    0x362ea253baea269bc955b28365bbb4e83a6751cdeb917476e0d999f7a2182148),
  (0x1edff13d99073e0e6441de58438feb37c6e1eaa3103197eb7d22deb9216f73e9,
    0x2e42eb00cbc19262a6caf1a51809d26674c878d718cd86a9e4e20617c243adf8)]

/-- Block 31: the points 1..8 times 256^31·B (R103). -/
def romBlock31 : List (Nat × Nat) := [
  (0x5830f025f1078d408948f73096af97de1e9e70b3be85890acb21132c34ff961f,
    0x67d451752c2433ffe66e47242e301e56db2b2f8203553cab9de717e25793d41e),
  (0x19929124ab5779c9a99e2d1716d8c07813132b29c69a3c1ed1f4e15da1d9062b,
    0x52c0cbef541fe80c1e9b999483041e79950a13c4424073607d4975a69ca1fb69),
  (0x633198a5af64eb253d99ab970c5962bdd15e0aea2cc5bc27439b720f2c76158f,
    0x0888e9e9da049e768f20844740c28268f1ec273d0307cbbc4dc40de64a7b0c18),
  (0x0849c9e6da66d17bbf08dfdd339cf0c074ed671a2ed91dcf7a6a8737a1738914,
    0x09f4dcbc5ae50392c92faf402cc4f17a92573a80d42e5a4c21de0ab0555edde9),
  (0x1deb18e4d05b2cdded11b25b88d03907396596ecdafe8685c8a5cd31fd1e41bf,
    0x4ac1d5c8cb78e44196a3f4bb6a0a807210348f2159fe69903a820912f604fd5f),
  (0x1e0990d03bcf64411334692cffd1efcdfd0c997e8fb4ad4a938086057c2be1f3,
    0x0ea9350f1881f5ea52c029b67d6284268ca29987345caa15f4aa45e680d6459d),
  (0x1cb7a40c1d8d48c456fd58d2486de95c65763a1ea5574c60f22bd3fb9791b943,
    0x2835019689be911d2041a2a561ccecc3137a695249acce48383edbaec67ef776),
  (0x03dec05fa937adb1796e9d70e892ae0f4636b0b2f1e35444525f946d7c7220e7,
    0x15949f784d8472f5691129fee55afc39462588c4a4ca4f146d1c271cc6375515)]

/-- The 32 blocks, in order (R103). -/
def romBlocks : List (List (Nat × Nat)) :=
  [romBlock0, romBlock1, romBlock2, romBlock3, romBlock4, romBlock5, romBlock6, romBlock7]
    ++ [romBlock8, romBlock9, romBlock10, romBlock11, romBlock12, romBlock13, romBlock14, romBlock15]
    ++ [romBlock16, romBlock17, romBlock18, romBlock19, romBlock20, romBlock21, romBlock22, romBlock23]
    ++ [romBlock24, romBlock25, romBlock26, romBlock27, romBlock28, romBlock29, romBlock30, romBlock31]

/-- The affine point (x, y) of entry j of block i, for i in 0..31 and j in 0..7 (R103). -/
def romPoint (i j : Nat) : Nat × Nat := (romBlocks.getD i []).getD j (0, 1)

end Sys2Proof.Machine
end

