-- ==== Sys2Proof/Machine/FixedBase.lean ====
section
/-! DEFINITION. Machine/FixedBase.lean: clamping, the table select, the signed digits, the fixed-base multiplier, and
the meanings of their commands (spec/42_scalarmult.md). -/

namespace Sys2Proof.Machine

/-! ### Functions -/

/-- The precomputed form (y+x, y-x, 2dxy) of an affine point, in canonical limbs (R90, R103). -/
def precompOf (a : Nat × Nat) : Precomp :=
  ⟨canon (a.2 + a.1), canon (a.2 + (fieldPrime - a.1)),
    canon (2 * curveD * a.1 % fieldPrime * a.2)⟩

/-- ROM[i][j] (R23, R103). -/
def rom (i j : Nat) : Precomp := precompOf (romPoint i j)

/-- The clamp of a scalar's bytes 0 and 31 (R104). -/
def clamp (a : Vector Byte 32) : Vector Byte 32 :=
  (a.setIfInBounds 0 (byteAt a 0 &&& 0xF8#8)).setIfInBounds 31 ((byteAt a 31 &&& 0x7F#8) ||| 0x40#8)

/-- FE_CMOV on the three coordinates of a table entry (R105). -/
def precompCmov (a b : Precomp) (c : Bool) : Precomp :=
  ⟨feCmov a.ypx b.ypx c, feCmov a.ymx b.ymx c, feCmov a.xy2d b.xy2d c⟩

/-- The negative of a precomputed point: swap y+x and y-x, negate 2dxy (R105). -/
def precompNeg (a : Precomp) : Precomp := ⟨a.ymx, a.ypx, feNeg a.xy2d⟩

/-- SELECT(blk, dig): all eight entries are read and conditionally moved, then the result is conditionally negated
(R105). -/
def select (blk : Nat) (dig : Int) : Precomp :=
  let t := [1, 2, 3, 4, 5, 6, 7, 8].foldl
    (fun t j => precompCmov t (rom blk (j - 1)) (dig.natAbs == j)) precompIdentity
  precompCmov t (precompNeg t) (decide (dig < 0))

/-- The base-16 digits of the bytes, low nibble first (R107). -/
def nibbles : List Byte → List Int
  | [] => []
  | b :: bs => (b.toNat % 16 : Nat) :: (b.toNat / 16 : Nat) :: nibbles bs

/-- The carry chain of R107: every digit but the last is balanced, the last one only takes the carry
(90_conflicts.md C8). -/
def balance : List Int → Int → List Int
  | [], _ => []
  | [e], carry => [e + carry]
  | e :: e' :: es, carry =>
    let d := e + carry
    let c := (d + 8) / 16
    (d - c * 16) :: balance (e' :: es) c

/-- DIGITS(a), 64 signed base-16 digits (R107). -/
def digits (a : Vector Byte 32) : List Int := balance (nibbles a.toList) 0

/-- `h = C2E(MADD(h, SELECT(i div 2, e[i])))` (R108). -/
def addDigit (e : List Int) (h : Extended) (i : Nat) : Extended :=
  completedToExtended (pointMadd h (select (i / 2) (e.getD i 0)))

/-- The odd digit indices 1, 3, ..., 63. -/
def oddIndices : List Nat := (List.range 32).map (fun k => 2 * k + 1)

/-- The even digit indices 0, 2, ..., 62. -/
def evenIndices : List Nat := (List.range 32).map (fun k => 2 * k)

/-- Four doublings, a factor of 16 (R108, 90_conflicts.md C1). -/
def timesSixteen (h : Extended) : Extended :=
  let s := completedToProjective (pointDouble (extendedToProjective h))
  let s := completedToProjective (pointDouble s)
  let s := completedToProjective (pointDouble s)
  completedToExtended (pointDouble s)

/-- The fixed-base multiplier: odd digits, times 16, even digits; every digit gets one addition (R108). -/
def scalarMultBase (a : Vector Byte 32) : Extended :=
  let e := digits a
  let h := oddIndices.foldl (addDigit e) extendedIdentity
  evenIndices.foldl (addDigit e) (timesSixteen h)

/-! ### Commands -/

/-- SC_CLAMP, in place (R104). -/
def execScClamp (s : State) : Outcome := finish s (.ok { s with scalar := clamp s.scalar })

/-- GE_SELECT (R106). -/
def execGeSelect (rd : Reg) (blk : Block) (dig : Int) (s : State) : Outcome :=
  finish s (if groupFits rd 3 then .ok (s.writePrecomp rd (select blk.val dig)) else .error .badOperand)

/-- GE_SMULB: SCALAR as written, no clamping, and not changed (R108). -/
def execGeSmulb (rd : Reg) (s : State) : Outcome :=
  finish s (if groupFits rd 4 then .ok (s.writeExtended rd (scalarMultBase s.scalar))
    else .error .badOperand)

end Sys2Proof.Machine
end

