-- ==== Sys2Proof/Machine/KeyDerive.lean ====
section
/-! DEFINITION. Machine/KeyDerive.lean: the key-derivation sequence and NOP (spec/44_keyderive.md). -/

namespace Sys2Proof.Machine

/-- The configuration of step 3's private context: OUTLEN 64, no key, salt or personalization (R123). -/
def deriveConfig : B2Config := ⟨64#7, 0#7, 0#5, 0#5⟩

/-- Blake2b-512 of the seed on a private context: one final block of 32 bytes, t = 32 (R123, step 3). -/
def seedHash (seed : Vector Byte 32) : Vector Byte 64 :=
  let hh := initialHash (paramBlock deriveConfig (zeroBytes 16) (zeroBytes 16))
  let blk : Vector Byte 128 := Vector.ofFn fun k => if k.val < 32 then byteAt seed k.val else 0#8
  hashBytes (compress hh blk 32#128 (BitVec.allOnes 64) 0#64)

/-- Bytes 0..31 of the hash, clamped (R123, step 4). -/
def seedScalar (seed : Vector Byte 32) : Vector Byte 32 :=
  clamp (Vector.ofFn fun k => byteAt (seedHash seed) k.val)

/-- The public key: the encoding of the scalar's multiple of B (R123, steps 5 and 6). -/
def derivePublic (seed : Vector Byte 32) : Vector Byte 32 :=
  pointEncode (extendedToProjective (scalarMultBase (seedScalar seed)))

/-- seed ‖ public key (R123, steps 2 and 7). -/
def expandKey (seed pk : Vector Byte 32) : Vector Byte 64 :=
  Vector.ofFn fun k => if k.val < 32 then byteAt seed k.val else byteAt pk (k.val - 32)

/-- KD_DERIVE: PUBKEY and EXPANDED are written together, and nothing else is touched (R123).  Step 8, the wipe of
scratch, has no state to act on (assumption 3). -/
def execKdDerive (s : State) : Outcome :=
  finish s (if s.seedlen = 32#8 then
      .ok { s with pubkey := derivePublic s.seed, expanded := expandKey s.seed (derivePublic s.seed) }
    else .error .invalidInput)

/-- NOP: only the accept and complete steps (R125). -/
def execNop (s : State) : Outcome := finish s (.ok s)

end Sys2Proof.Machine
end

