-- ==== Sys2Proof/Machine/Dispatch.lean ====
section
/-! DEFINITION. Machine/Dispatch.lean: which meaning each command has: the complete step of R34 for a decoded
command. -/

namespace Sys2Proof.Machine

def exec (i : Instr) (s : State) : Host.Outcome State Fault Refusal :=
  match i with
  | .feZero rd => Sys2Proof.Machine.execFeZero rd s
  | .feOne rd => Sys2Proof.Machine.execFeOne rd s
  | .feCopy rd ra => Sys2Proof.Machine.execFeCopy rd ra s
  | .feAdd rd ra rb => Sys2Proof.Machine.execFeAdd rd ra rb s
  | .feSub rd ra rb => Sys2Proof.Machine.execFeSub rd ra rb s
  | .feNeg rd ra => Sys2Proof.Machine.execFeNeg rd ra s
  | .feMul rd ra rb => Sys2Proof.Machine.execFeMul rd ra rb s
  | .feSq rd ra => Sys2Proof.Machine.execFeSq rd ra s
  | .feSq2 rd ra => Sys2Proof.Machine.execFeSq2 rd ra s
  | .feReduce rd ra => Sys2Proof.Machine.execFeReduce rd ra s
  | .feInv rd ra => Sys2Proof.Machine.execFeInv rd ra s
  | .feCmov rd ra rb c => Sys2Proof.Machine.execFeCmov rd ra rb c s
  | .feIsneg ra => Sys2Proof.Machine.execFeIsneg ra s
  | .feTobytes ra => Sys2Proof.Machine.execFeTobytes ra s
  | .geId rd => Sys2Proof.Machine.execGeId rd s
  | .geDbl rd ra => Sys2Proof.Machine.execGeDbl rd ra s
  | .geMadd rd ra rb => Sys2Proof.Machine.execGeMadd rd ra rb s
  | .geC2p rd ra => Sys2Proof.Machine.execGeC2p rd ra s
  | .geC2e rd ra => Sys2Proof.Machine.execGeC2e rd ra s
  | .geE2p rd ra => Sys2Proof.Machine.execGeE2p rd ra s
  | .geEncode ra => Sys2Proof.Machine.execGeEncode ra s
  | .scClamp => Sys2Proof.Machine.execScClamp s
  | .geSelect rd blk dig => Sys2Proof.Machine.execGeSelect rd blk dig s
  | .geSmulb rd => Sys2Proof.Machine.execGeSmulb rd s
  | .b2Init => Sys2Proof.Machine.execB2Init s
  | .b2Update => Sys2Proof.Machine.execB2Update s
  | .b2Final => Sys2Proof.Machine.execB2Final s
  | .kdDerive => Sys2Proof.Machine.execKdDerive s
  | .nop => Sys2Proof.Machine.execNop s

end Sys2Proof.Machine
end

