-- ==== Sys2Proof/Machine/Window.lean ====
section
/-! DEFINITION. Machine/Window.lean: the register window: the address map, what a read returns, what a write does, and
the host bus with its BUSY rules (spec/20_memory.md, spec/70_reset_and_hazards.md §3). -/

namespace Sys2Proof.Machine

/-! ### The address map (R39) -/

/-- The byte registers (R20). -/
inductive ByteReg where
  | key
  | salt
  | pers
  | data
  | digest
  | scalar
  | seed
  | pubkey
  | expanded
  | out32
deriving DecidableEq, Repr

/-- A location of the register window: one 32-bit word (R39). -/
inductive Loc where
  | id
  | ctrl
  | status
  | cmd
  | result
  | b2cfg
  | b2len
  | seedlen
  /-- Word m of a byte register (R41). -/
  | bytes (r : ByteReg) (m : Nat)
  /-- Half `half` of hash word i: 0 is bits 31:0 (R42). -/
  | hash (i half : Nat)
  /-- Word m of T, of F0, of F1 (R42). -/
  | counter (m : Nat)
  | flag0 (m : Nat)
  | flag1 (m : Nat)
  | buflen
  | nn
  /-- Word m of BUF. -/
  | buffer (m : Nat)
  /-- Limb i of field register r (R40). -/
  | limb (r i : Nat)
  /-- An offset the map reserves (R43). -/
  | reserved
deriving DecidableEq, Repr

/-- The location of the word at byte offset `a`, a multiple of 4 (R39, R40). -/
def locAt (a : Nat) : Loc :=
  if a = 0x0000 then .id
  else if a = 0x0004 then .ctrl
  else if a = 0x0008 then .status
  else if a = 0x000C then .cmd
  else if a = 0x0010 then .result
  else if a = 0x0014 then .b2cfg
  else if a = 0x0018 then .b2len
  else if a = 0x001C then .seedlen
  else if a < 0x0100 then .reserved
  else if a < 0x0140 then .bytes .key ((a - 0x0100) / 4)
  else if a < 0x0150 then .bytes .salt ((a - 0x0140) / 4)
  else if a < 0x0160 then .bytes .pers ((a - 0x0150) / 4)
  else if a < 0x0180 then .reserved
  else if a < 0x0200 then .bytes .data ((a - 0x0180) / 4)
  else if a < 0x0240 then .bytes .digest ((a - 0x0200) / 4)
  else if a < 0x0260 then .bytes .scalar ((a - 0x0240) / 4)
  else if a < 0x0280 then .bytes .seed ((a - 0x0260) / 4)
  else if a < 0x02A0 then .bytes .pubkey ((a - 0x0280) / 4)
  else if a < 0x02E0 then .bytes .expanded ((a - 0x02A0) / 4)
  else if a < 0x0300 then .bytes .out32 ((a - 0x02E0) / 4)
  else if a < 0x0340 then .hash ((a - 0x0300) / 8) ((a - 0x0300) / 4 % 2)
  else if a < 0x0350 then .counter ((a - 0x0340) / 4)
  else if a < 0x0358 then .flag0 ((a - 0x0350) / 4)
  else if a < 0x0360 then .flag1 ((a - 0x0358) / 4)
  else if a = 0x0360 then .buflen
  else if a = 0x0364 then .nn
  else if a < 0x0380 then .reserved
  else if a < 0x0400 then .buffer ((a - 0x0380) / 4)
  else if a < 0x1000 then .reserved
  else if a < 0x1800 then
    if (a - 0x1000) % 0x40 < 0x28 then .limb ((a - 0x1000) / 0x40) ((a - 0x1000) % 0x40 / 4) else .reserved
  else .reserved

/-- The location an address reaches: address bits [1:0] are ignored (R38, R46). -/
def locOf (addr : Offset) : Loc := locAt (4 * (addr.toNat / 4))

/-! ### Reads -/

/-- The ID register's constant, "NGR7" (R24). -/
def idValue : Word := 0x4E475237#32

/-- Word m of a byte register (R41). -/
def State.byteWord (s : State) (r : ByteReg) (m : Nat) : Word :=
  match r with
  | .key => busWord s.key m
  | .salt => busWord s.salt m
  | .pers => busWord s.pers m
  | .data => busWord s.data m
  | .digest => busWord s.digest m
  | .scalar => busWord s.scalar m
  | .seed => busWord s.seed m
  | .pubkey => busWord s.pubkey m
  | .expanded => busWord s.expanded m
  | .out32 => busWord s.out32 m

/-- The current value of a location.  A reserved offset reads 0 (R43); a read changes nothing (R48). -/
def State.readLoc (s : State) (l : Loc) : Word :=
  match l with
  | .id => idValue
  | .ctrl => s.ctrlWord
  | .status => s.statusWord
  | .cmd => s.inflight
  | .result => s.resultWord
  | .b2cfg => s.b2cfg.word
  | .b2len => s.b2len.setWidth 32
  | .seedlen => s.seedlen.setWidth 32
  | .bytes r m => s.byteWord r m
  | .hash i half => wideWord (s.b2.h.getD i 0#64) half
  | .counter m => wideWord s.b2.t m
  | .flag0 m => wideWord s.b2.f0 m
  | .flag1 m => wideWord s.b2.f1 m
  | .buflen => s.b2.buflen.setWidth 32
  | .nn => s.b2.nn.setWidth 32
  | .buffer m => busWord s.b2.buf m
  | .limb r i => (s.readFr r).limb i
  | .reserved => 0#32

/-- The field registers of the group FR[r], ..., FR[r+k-1]. -/
def Loc.inGroup (l : Loc) (r : Reg) (k : Nat) : Bool :=
  match l with
  | .limb n _ => decide (r.val ≤ n) && decide (n < r.val + k)
  | _ => false

/-- A word of a byte register. -/
def Loc.inBytes (l : Loc) (r : ByteReg) : Bool :=
  match l with
  | .bytes r' _ => decide (r' = r)
  | _ => false

/-- A word of the hash-engine windows: B2_H, B2_T, B2_F0, B2_F1, B2_BUFLEN, B2_NN, B2_BUF (R39). -/
def Loc.inEngine (l : Loc) : Bool :=
  match l with
  | .hash _ _ => true
  | .counter _ => true
  | .flag0 _ => true
  | .flag1 _ => true
  | .buflen => true
  | .nn => true
  | .buffer _ => true
  | _ => false

/-- The locations a command may write: the destinations R19 and R20 list for it, and the hash-engine windows for
B2_INIT, B2_UPDATE and B2_FINAL (R144). -/
def mayWrite (i : Instr) (l : Loc) : Bool :=
  match i with
  | .feZero rd => l.inGroup rd 1
  | .feOne rd => l.inGroup rd 1
  | .feCopy rd _ => l.inGroup rd 1
  | .feAdd rd _ _ => l.inGroup rd 1
  | .feSub rd _ _ => l.inGroup rd 1
  | .feNeg rd _ => l.inGroup rd 1
  | .feMul rd _ _ => l.inGroup rd 1
  | .feSq rd _ => l.inGroup rd 1
  | .feSq2 rd _ => l.inGroup rd 1
  | .feReduce rd _ => l.inGroup rd 1
  | .feInv rd _ => l.inGroup rd 1
  | .feCmov rd _ _ _ => l.inGroup rd 1
  | .feIsneg _ => decide (l = .result)
  | .feTobytes _ => l.inBytes .out32
  | .geId rd => l.inGroup rd 4
  | .geDbl rd _ => l.inGroup rd 4
  | .geMadd rd _ _ => l.inGroup rd 4
  | .geC2p rd _ => l.inGroup rd 3
  | .geC2e rd _ => l.inGroup rd 4
  | .geE2p rd _ => l.inGroup rd 3
  | .geEncode _ => l.inBytes .out32
  | .scClamp => l.inBytes .scalar
  | .geSelect rd _ _ => l.inGroup rd 3
  | .geSmulb rd => l.inGroup rd 4
  | .b2Init => l.inEngine
  | .b2Update => l.inEngine
  | .b2Final => l.inEngine || l.inBytes .digest
  | .kdDerive => l.inBytes .pubkey || l.inBytes .expanded
  | .nop => false

/-- A location that the command in flight may write (R144).  An illegal command word writes nothing (R61). -/
def State.inFlightMayWrite (s : State) (l : Loc) : Bool :=
  s.busy && match decode s.inflight with
    | .ok i => mayWrite i l
    | .error _ => false

/-- The host's read (R38): "any value" while the reset input is asserted (R139), and, while BUSY = 1, at a location
the in-flight command may write (R144); else the location's current value. -/
def State.busRead (s : State) (addr : Offset) : State :=
  if s.env.resetPin || s.inFlightMayWrite (locOf addr) then s.returnAny
  else s.returnData (s.readLoc (locOf addr))

/-! ### Writes -/

/-- A write of word m of a RW byte register; the other byte registers are read-only (R20, R41, R43). -/
def State.writeByteWord (s : State) (r : ByteReg) (m : Nat) (w : Word) : State :=
  match r with
  | .key => { s with key := setBusWord s.key m w }
  | .salt => { s with salt := setBusWord s.salt m w }
  | .pers => { s with pers := setBusWord s.pers m w }
  | .data => { s with data := setBusWord s.data m w }
  | .scalar => { s with scalar := setBusWord s.scalar m w }
  | .seed => { s with seed := setBusWord s.seed m w }
  | .digest => s
  | .pubkey => s
  | .expanded => s
  | .out32 => s

/-- A write of CTRL: SRST = 1 performs a soft reset and the other bits are ignored; else IE is stored
(R25, R140). -/
def State.writeCtrl (s : State) (w : Word) : State :=
  if w.getLsbD 1 then s.softReset else { s with ie := w.getLsbD 0 }

/-- What a performed write does.  Writes to read-only and reserved locations and to reserved fields are ignored
(R43); a write of CMD accepts the command word (R27, R34). -/
def State.writeLoc (s : State) (l : Loc) (w : Word) : State :=
  match l with
  | .id => s
  | .ctrl => s.writeCtrl w
  | .status => s.writeStatus w
  | .cmd => s.accept w
  | .result => s
  | .b2cfg => { s with b2cfg := B2Config.ofWord w }
  | .b2len => { s with b2len := w.extractLsb' 0 8 }
  | .seedlen => { s with seedlen := w.extractLsb' 0 8 }
  | .bytes r m => s.writeByteWord r m w
  | .hash _ _ => s
  | .counter _ => s
  | .flag0 _ => s
  | .flag1 _ => s
  | .buflen => s
  | .nn => s
  | .buffer _ => s
  | .limb r i => s.writeFr r ((s.readFr r).setLimb i w)
  | .reserved => s

/-- CTRL and STATUS accept writes while BUSY = 1 (R143). -/
def Loc.writableWhileBusy (l : Loc) : Bool := decide (l = .ctrl) || decide (l = .status)

/-- The host's write (R38): no effect while the reset input is asserted (R139); while BUSY = 1 a write to any
location but CTRL and STATUS is dropped and sets OVR (R143); else the location's own effect. -/
def State.busWrite (s : State) (addr : Offset) (w : Word) : State :=
  if s.env.resetPin then s
  else if s.busy && !(locOf addr).writableWhileBusy then { s with ovr := true }
  else s.writeLoc (locOf addr) w

/-! ### The host's move -/

/-- One action of the host or of the platform's reset input, an atomic step (R38, R139). -/
def State.hostAct (s : State) (a : HostAction) : State :=
  match a with
  | .read addr => s.busRead addr
  | .write addr w => s.busWrite addr w
  | .assertReset => s.assertReset
  | .releaseReset => s.releaseReset

end Sys2Proof.Machine
end

