-- ==== Sys2Proof/Machine/Step.lean ====
section
/-! DEFINITION. Machine/Step.lean: one step of NGR-CORE and its host. -/

namespace Sys2Proof.Machine

/-- One step: the agent whose turn it is moves (R3, R34).  The sequencer's move is the complete step of the command
word in flight: a legal word runs its command, an illegal one completes with ILLEGAL_COMMAND (R61). -/
def step (s : State) : Host.Outcome State Fault Refusal :=
  match s.nextTurn with
  | .host a t => .next (t.hostAct a)
  | .command w t =>
    match decode w with
    | .ok i => exec i t
    | .error _ => completeIllegal t
  | .wait t => .next t

/-- The state in which the very next step completes the command word whose table bits are `w`.  NGR-CORE fetches no
instructions (R35): a command reaches it as a host write to CMD, which accepts it, and this is the accepted state
(assumption 1). -/
def State.withFetchWord (s : State) (nbits w : Nat) : State := s.placeCommand (tableWord nbits w)

end Sys2Proof.Machine
end

