-- ==== Sys2Proof/Machine/Bounds.lean ====
section
/-! DEFINITION. Machine/Bounds.lean: the integer reading of the field unit and of the hash engine, which the claims are
stated in: the wraps of R8, the bound classes of R66, the loops of R68, R69, R70, R113 and R114 and R71's table. -/

namespace Sys2Proof.Machine

/-- `s32(v)`: the w ≡ v (mod 2^32) with -2^31 ≤ w < 2^31 (R8). -/
def s32 (v : Int) : Int := (v + 2 ^ 31) % 2 ^ 32 - 2 ^ 31

/-- `s64(v)`: the same with 2^64 (R8). -/
def s64 (v : Int) : Int := (v + 2 ^ 63) % 2 ^ 64 - 2 ^ 63

/-- Limb i as a signed integer. -/
def FieldElement.int (f : FieldElement) (i : Nat) : Int := (f.limb i).toInt

/-- `f` is β-bounded: |f.l[i]| ≤ β·2^w(i) for every i (R66), for a natural β. -/
def FieldElement.Bounded (β : Nat) (f : FieldElement) : Prop :=
  ∀ i, i < 10 → |f.int i| ≤ (β : Int) * 2 ^ limbWidth i

/-- Class T: |f.l[i]| ≤ 2^(w(i)-1), but 2^24 + 2^17 for limbs 1 and 5 (R66). -/
def FieldElement.Tight (f : FieldElement) : Prop :=
  ∀ i, i < 10 → |f.int i| ≤ if i = 1 ∨ i = 5 then 2 ^ 24 + 2 ^ 17 else 2 ^ (limbWidth i - 1)

/-- Every limb lies in [0, 2^w(i)) (R70, R11). -/
def FieldElement.InRange (f : FieldElement) : Prop :=
  ∀ i, i < 10 → 0 ≤ f.int i ∧ f.int i < 2 ^ limbWidth i

/-- Canonical form, class C: limbs in range and val(f) ≤ p - 1 (R11). -/
def FieldElement.Canonical (f : FieldElement) : Prop :=
  f.InRange ∧ 0 ≤ f.val ∧ f.val ≤ (fieldPrime : Int) - 1

/-- a ≡ b (mod p). -/
def CongrP (a b : Int) : Prop := a % (fieldPrime : Int) = b % (fieldPrime : Int)

/-- The index pairs of R68's double loop, in its order. -/
def limbPairs : List (Nat × Nat) := limbIndices.flatMap fun i => limbIndices.map fun j => (i, j)

/-- One pass of R68's inner loop body, on integers. -/
def mulsumBody (f g : FieldElement) (h : List Int) (ij : Nat × Nat) : List Int :=
  let c : Int := (if ij.1 % 2 = 1 ∧ ij.2 % 2 = 1 then 2 else 1) * (if 10 ≤ ij.1 + ij.2 then 19 else 1)
  let k := (ij.1 + ij.2) % 10
  h.set k (s64 (h.getD k 0 + s64 (c * f.int ij.1 * g.int ij.2)))

/-- MULSUM as R68 writes it: the double loop, on integers. -/
def mulsumLoop (f g : FieldElement) : List Int := limbPairs.foldl (mulsumBody f g) (List.replicate 10 0)

/-- One pass of R69's loop body, on integers. -/
def carryBody (h : List Int) (k : Nat) : List Int :=
  let c := s64 (h.getD k 0 + 2 ^ (limbWidth k - 1)) / 2 ^ limbWidth k
  let h' := h.set k (s64 (h.getD k 0 - s64 (c * 2 ^ limbWidth k)))
  if k = 9 then h'.set 0 (s64 (h'.getD 0 0 + s64 (19 * c))) else h'.set (k + 1) (s64 (h'.getD (k + 1) 0 + c))

/-- CARRY as R69 writes it: the loop over ORDER, then `s32` of each sum, on integers. -/
def carryLoop (h : Wide) : List Int :=
  ([0, 4, 1, 5, 2, 6, 3, 7, 4, 8, 9, 0].foldl carryBody (limbIndices.map fun k => (h.get k).toInt)).map s32

/-- One pass of R70's last loop, on integers: the carry out of limb i, which is discarded for limb 9. -/
def reduceBody (h : List Int) (i : Nat) : List Int :=
  let c := h.getD i 0 / 2 ^ limbWidth i
  let h' := h.set i (s32 (h.getD i 0 - s32 (c * 2 ^ limbWidth i)))
  if i < 9 then h'.set (i + 1) (s32 (h'.getD (i + 1) 0 + c)) else h'

/-- REDUCE as R70 writes it: the quotient loop and the carry loop, on integers. -/
def reduceLoop (f : FieldElement) : List Int :=
  let h := limbIndices.map f.int
  let q := limbIndices.foldl (fun q i => s32 (h.getD i 0 + q) / 2 ^ limbWidth i)
    (s32 (s32 (19 * h.getD 9 0) + 2 ^ 24) / 2 ^ 25)
  limbIndices.foldl reduceBody (h.set 0 (s32 (h.getD 0 0 + s32 (19 * q))))

/-- R71's table: for byte k, the first limb and its shift, and the second limb and its shift where there is one. -/
def packTable : List ((Nat × Nat) × Option (Nat × Nat)) :=
  [((0, 0), none), ((0, 8), none), ((0, 16), none), ((0, 24), some (1, 2)),
    ((1, 6), none), ((1, 14), none), ((1, 22), some (2, 3)), ((2, 5), none),
    ((2, 13), none), ((2, 21), some (3, 5)), ((3, 3), none), ((3, 11), none),
    ((3, 19), some (4, 6)), ((4, 2), none), ((4, 10), none), ((4, 18), none),
    ((5, 0), none), ((5, 8), none), ((5, 16), none), ((5, 24), some (6, 1)),
    ((6, 7), none), ((6, 15), none), ((6, 23), some (7, 3)), ((7, 5), none),
    ((7, 13), none), ((7, 21), some (8, 4)), ((8, 4), none), ((8, 12), none),
    ((8, 20), some (9, 6)), ((9, 2), none), ((9, 10), none), ((9, 18), none)]

/-- Byte k by R71's table: `((h[a] >> sa) | (h[b] << sb)) & 0xFF`. -/
def packTableByte (h : FieldElement) (k : Nat) : Byte :=
  match packTable[k]? with
  | some ((a, sa), some (b, sb)) => ((h.limb a >>> sa) ||| (h.limb b <<< sb)).setWidth 8
  | some ((a, sa), none) => (h.limb a >>> sa).setWidth 8
  | none => 0#8

/-! ### The compression function on integers -/

/-- `rotr64(x, n)` on an unsigned integer x < 2^64 (R8). -/
def rotr64 (x n : Nat) : Nat := ((x >>> n) ||| (x <<< (64 - n))) % 2 ^ 64

/-- G(v, a, b, c, d, x, y) as R113 writes it: eight assignments in order, on a list of unsigned 64-bit integers. -/
def mixBody (v : List Nat) (a b c d x y : Nat) : List Nat :=
  let v := v.set a ((v.getD a 0 + v.getD b 0 + x) % 2 ^ 64)
  let v := v.set d (rotr64 (v.getD d 0 ^^^ v.getD a 0) 32)
  let v := v.set c ((v.getD c 0 + v.getD d 0) % 2 ^ 64)
  let v := v.set b (rotr64 (v.getD b 0 ^^^ v.getD c 0) 24)
  let v := v.set a ((v.getD a 0 + v.getD b 0 + y) % 2 ^ 64)
  let v := v.set d (rotr64 (v.getD d 0 ^^^ v.getD a 0) 16)
  let v := v.set c ((v.getD c 0 + v.getD d 0) % 2 ^ 64)
  v.set b (rotr64 (v.getD b 0 ^^^ v.getD c 0) 63)

/-- The (a, b, c, d) of R114's eight calls of G in one round: four columns, then four diagonals. -/
def mixQuads : List (Nat × Nat × Nat × Nat) :=
  [(0, 4, 8, 12), (1, 5, 9, 13), (2, 6, 10, 14), (3, 7, 11, 15),
    (0, 5, 10, 15), (1, 6, 11, 12), (2, 7, 8, 13), (3, 4, 9, 14)]

/-- One pass of R114's round loop with the row `s` of SIGMA: call k of G takes m[s[2k]] and m[s[2k+1]]. -/
def roundBody (m s v : List Nat) : List Nat :=
  (List.range 8).foldl (fun v k =>
    let q := mixQuads.getD k (0, 0, 0, 0)
    mixBody v q.1 q.2.1 q.2.2.1 q.2.2.2 (m.getD (s.getD (2 * k) 0) 0) (m.getD (s.getD (2 * k + 1) 0) 0)) v

/-- COMPRESS as R114 writes it, on unsigned integers, over the vector `iv` and the schedule `sigma` it is given:
the message words, v[0..15] with the counter and the flags, twelve rounds, and h'[i] = h[i] ^ v[i] ^ v[i+8]. -/
def compressLoop (iv : List Nat) (sigma : List (List Nat)) (h : List Nat) (block : List Byte) (t f0 f1 : Nat) :
    List Nat :=
  let m := (List.range 16).map fun i => leint ((block.drop (8 * i)).take 8)
  let v := h ++ iv
  let v := v.set 12 (v.getD 12 0 ^^^ t % 2 ^ 64)
  let v := v.set 13 (v.getD 13 0 ^^^ t / 2 ^ 64)
  let v := v.set 14 (v.getD 14 0 ^^^ f0)
  let v := v.set 15 (v.getD 15 0 ^^^ f1)
  let v := (List.range 12).foldl (fun v r => roundBody m (sigma.getD (r % 10) []) v) v
  (List.range 8).map fun i => h.getD i 0 ^^^ v.getD i 0 ^^^ v.getD (i + 8) 0

end Sys2Proof.Machine
end

