-- ==== Sys2Proof/Safety.lean ====
section
/-! DEFINITION. Safety.lean: what counts as a good state and a good run, in the terms the claims use. -/

namespace Sys2Proof.Machine

/-! ### The invariant -/

/-- What every reachable state satisfies, by the spec's own rules. -/
structure State.Inv (s : State) : Prop where
  /-- BUFLEN is 0..128 (R21). -/
  buflen_le : s.b2.buflen.toNat ≤ 128
  /-- F1 is 0 at all times (R115). -/
  f1_zero : s.b2.f1 = 0#64
  /-- F0 is 0 until B2_FINAL sets it to 2^64 - 1 (R115). -/
  f0_final : s.b2.f0 = if s.b2.engine = .finalized then BitVec.allOnes 64 else 0#64
  /-- Only B2_INIT leaves UNINITIALIZED, so the engine still has its reset values there (R117, R36). -/
  fresh : s.b2.engine = .uninitialized → s.b2 = Blake2bState.reset
  /-- NN is 1..64 once initialised (R21). -/
  nn_range : s.b2.engine ≠ .uninitialized → 1 ≤ s.b2.nn.toNat ∧ s.b2.nn.toNat ≤ 64
  /-- DIGEST is zero past NN after B2_FINAL (R120). -/
  digest_tail : s.b2.engine = .finalized → ∀ k, s.b2.nn.toNat ≤ k → byteAt s.digest k = 0#8
  /-- From accept to completion DONE = 0 and ERR = 0 (R34). -/
  busy_clean : s.phase = .busy → s.done = false ∧ s.err = .none
  /-- EXPANDED[32..63] = PUBKEY (R124). -/
  expanded_key : ∀ k, k < 32 → byteAt s.expanded (32 + k) = byteAt s.pubkey k
  /-- While the reset input is asserted every piece of state has its reset value (R139). -/
  held_in_reset : s.env.resetPin = true → s = { State.reset with env := s.env }

/-! ### Latency (R146, R147) -/

/-- `s` has a command in flight that the sequencer completes in the step after `k` other steps: at the k-th state
from `s` it is the sequencer's turn with that command, and at none before. -/
def CompletesAfter (s : State) (k : Nat) : Prop :=
  (∃ t w u, Sys2Proof.core.run k s = .next t ∧ t.nextTurn = .command w u)
    ∧ ∀ j, j < k → ∃ t, Sys2Proof.core.run j s = .next t ∧ t.phase = .busy ∧ ∀ w u, t.nextTurn ≠ .command w u

/-- The assumption that R146 and R147 make of an implementation: every accepted command completes LAT(op) steps after
its accept, at least one and a function of the opcode alone.  The model does not impose it (assumption 1): the moves of
a state admit every latency. -/
def ConstantTime (lat : BitVec 8 → Nat) (s : State) : Prop :=
  ∀ n a b k, Sys2Proof.core.run n s = .next a → a.phase = .idle → step a = .next b → b.phase = .busy →
    CompletesAfter b k → k + 1 = lat (fieldsOf b.inflight).opc

/-! ### What the spec's tables say of the commands -/

/-- The bits of a command word that its format uses, with OPC and RSV (R57). -/
def usedBits (i : Instr) : Word :=
  let n := 0xFF0000FF#32
  let d := n ||| 0x00001F00#32
  let a := n ||| 0x0003E000#32
  let da := d ||| 0x0003E000#32
  let dab := da ||| 0x007C0000#32
  match i with
  | .feZero _ => d
  | .feOne _ => d
  | .feCopy _ _ => da
  | .feAdd _ _ _ => dab
  | .feSub _ _ _ => dab
  | .feNeg _ _ => da
  | .feMul _ _ _ => dab
  | .feSq _ _ => da
  | .feSq2 _ _ => da
  | .feReduce _ _ => da
  | .feInv _ _ => da
  | .feCmov _ _ _ _ => dab ||| 0x00800000#32
  | .feIsneg _ => a
  | .feTobytes _ => a
  | .geId _ => d
  | .geDbl _ _ => da
  | .geMadd _ _ _ => dab
  | .geC2p _ _ => da
  | .geC2e _ _ => da
  | .geE2p _ _ => da
  | .geEncode _ => a
  | .scClamp => n
  | .geSelect _ _ _ => dab
  | .geSmulb _ => d
  | .b2Init => n
  | .b2Update => n
  | .b2Final => n
  | .kdDerive => n
  | .nop => n

/-- The opcodes of the opcode map (R59). -/
def assignedOpcodes : List Nat :=
  [0x01, 0x02, 0x03, 0x04, 0x05, 0x06, 0x07, 0x08, 0x09, 0x0A, 0x0B, 0x0C, 0x0D, 0x0E,
    0x10, 0x11, 0x12, 0x13, 0x14, 0x15, 0x16, 0x20, 0x21, 0x22, 0x30, 0x31, 0x32, 0x40, 0x7F]

/-- BAD_OPERAND where the condition holds. -/
def badIf (c : Prop) [Decidable c] : ErrorCode := if c then .badOperand else .none

/-- The code each command reports, by the table of R127 with the causes of R126 and the priority of R128. -/
def expectedError (i : Instr) (s : State) : ErrorCode :=
  match i with
  | .feZero _ => .none
  | .feOne _ => .none
  | .feCopy _ _ => .none
  | .feAdd _ _ _ => .none
  | .feSub _ _ _ => .none
  | .feNeg _ _ => .none
  | .feMul _ _ _ => .none
  | .feSq _ _ => .none
  | .feSq2 _ _ => .none
  | .feReduce _ _ => .none
  | .feInv _ _ => .none
  | .feCmov _ _ _ _ => .none
  | .feIsneg _ => .none
  | .feTobytes _ => .none
  | .geId rd => badIf (rd.val > 28)
  | .geDbl rd ra => badIf (rd.val > 28 ∨ ra.val > 29)
  | .geMadd rd ra rb => badIf (rd.val > 28 ∨ ra.val > 28 ∨ rb.val > 29)
  | .geC2p rd ra => badIf (rd.val > 29 ∨ ra.val > 28)
  | .geC2e rd ra => badIf (rd.val > 28 ∨ ra.val > 28)
  | .geE2p rd ra => badIf (rd.val > 29 ∨ ra.val > 29)
  | .geEncode ra => badIf (ra.val > 29)
  | .scClamp => .none
  | .geSelect rd _ _ => badIf (rd.val > 29)
  | .geSmulb rd => badIf (rd.val > 28)
  | .b2Init =>
    if (1 ≤ s.b2cfg.outlen.toNat ∧ s.b2cfg.outlen.toNat ≤ 64) ∧ s.b2cfg.keylen.toNat ≤ 64
      ∧ (s.b2cfg.saltlen.toNat = 0 ∨ s.b2cfg.saltlen.toNat = 16)
      ∧ (s.b2cfg.perslen.toNat = 0 ∨ s.b2cfg.perslen.toNat = 16) then .none else .configError
  | .b2Update =>
    if s.b2len.toNat > 128 then .badOperand
    else if s.b2.engine = .uninitialized ∨ s.b2.engine = .finalized then .stateError else .none
  | .b2Final => if s.b2.engine = .uninitialized ∨ s.b2.engine = .finalized then .stateError else .none
  | .kdDerive => if s.seedlen.toNat = 32 then .none else .invalidInput
  | .nop => .none

/-- The register window as R39's table lists it, FR apart (R40): the offset of a row, its number of words, and the
location of its word m. -/
def windowTable : List (Nat × Nat × (Nat → Loc)) :=
  [(0x0000, 1, fun _ => .id), (0x0004, 1, fun _ => .ctrl), (0x0008, 1, fun _ => .status), (0x000C, 1, fun _ => .cmd),
    (0x0010, 1, fun _ => .result), (0x0014, 1, fun _ => .b2cfg), (0x0018, 1, fun _ => .b2len),
    (0x001C, 1, fun _ => .seedlen), (0x0020, 56, fun _ => .reserved), (0x0100, 16, .bytes .key),
    (0x0140, 4, .bytes .salt), (0x0150, 4, .bytes .pers), (0x0160, 8, fun _ => .reserved),
    (0x0180, 32, .bytes .data), (0x0200, 16, .bytes .digest), (0x0240, 8, .bytes .scalar),
    (0x0260, 8, .bytes .seed), (0x0280, 8, .bytes .pubkey), (0x02A0, 16, .bytes .expanded),
    (0x02E0, 8, .bytes .out32), (0x0300, 16, fun m => .hash (m / 2) (m % 2)), (0x0340, 4, .counter),
    (0x0350, 2, .flag0), (0x0358, 2, .flag1), (0x0360, 1, fun _ => .buflen), (0x0364, 1, fun _ => .nn),
    (0x0368, 6, fun _ => .reserved), (0x0380, 32, .buffer), (0x0400, 768, fun _ => .reserved),
    (0x1800, 512, fun _ => .reserved)]

/-- The bits of a location that an ordinary write stores (the access column of R39 with R25 to R31): none for a
read-only or reserved location.  CTRL and STATUS have write rules of their own (R25, R26). -/
def storedBits (l : Loc) : Word :=
  match l with
  | .id => 0#32
  | .ctrl => 0#32
  | .status => 0#32
  | .cmd => 0xFFFFFFFF#32
  | .result => 0#32
  | .b2cfg => 0x1F1F7F7F#32
  | .b2len => 0x000000FF#32
  | .seedlen => 0x000000FF#32
  | .bytes .key _ => 0xFFFFFFFF#32
  | .bytes .salt _ => 0xFFFFFFFF#32
  | .bytes .pers _ => 0xFFFFFFFF#32
  | .bytes .data _ => 0xFFFFFFFF#32
  | .bytes .digest _ => 0#32
  | .bytes .scalar _ => 0xFFFFFFFF#32
  | .bytes .seed _ => 0xFFFFFFFF#32
  | .bytes .pubkey _ => 0#32
  | .bytes .expanded _ => 0#32
  | .bytes .out32 _ => 0#32
  | .hash _ _ => 0#32
  | .counter _ => 0#32
  | .flag0 _ => 0#32
  | .flag1 _ => 0#32
  | .buflen => 0#32
  | .nn => 0#32
  | .buffer _ => 0#32
  | .limb _ _ => 0xFFFFFFFF#32
  | .reserved => 0#32

/-- What the hash commands do to the engine state: the next state, or the error, of R117's table for a legal
configuration and B2LEN ≤ 128. -/
def engineAfter (i : Instr) (e : EngineState) : Except ErrorCode EngineState :=
  match i, e with
  | .b2Init, _ => .ok .initialized
  | .b2Update, .initialized => .ok .updating
  | .b2Update, .updating => .ok .updating
  | .b2Update, _ => .error .stateError
  | .b2Final, .initialized => .ok .finalized
  | .b2Final, .updating => .ok .finalized
  | .b2Final, _ => .error .stateError
  | _, e => .ok e

end Sys2Proof.Machine
end

