-- ==== Sys2Proof/Certificates/Slice0/Obligations.lean ====
section
/-! DEFINITION. Certificates/Slice0/Obligations.lean: the statements about the model, for the provers.  A statement about
"any value" (R144) holds for every value of `Config.anyRead`. -/

open Sys2Proof Sys2Proof.Machine

/-! ## Encoding (spec/30_encoding.md) -/

/-- Decoding the assembled word of any well-formed command gives the command back, with every operand at every value
its field admits (R56, R57, R58, R59, R62). -/
def Obligations.DecodeOfEncodeIsTheCommand : Prop :=
  ∀ i : Instr, i.wf = true → decode (encode i) = .ok i

/-- Words written out from R56 and R59, at least one of every family, decode to the commands they stand for. -/
def Obligations.SpecWordsDecodeToTheirCommands : Prop :=
  decode 0x00040305#32 = .ok (.feSub 3 0 1)
    ∧ decode 0x0088270C#32 = .ok (.feCmov 7 1 2 true)
    ∧ decode 0x0000800E#32 = .ok (.feTobytes 4)
    ∧ decode 0x00410C12#32 = .ok (.geMadd 12 8 16)
    ∧ decode 0x00010016#32 = .ok (.geEncode 8)
    ∧ decode 0x007C1021#32 = .ok (.geSelect 16 0 (-1))
    ∧ decode 0x0063F021#32 = .ok (.geSelect 16 31 (-8))
    ∧ decode 0x00000032#32 = .ok .b2Final
    ∧ decode 0x00000040#32 = .ok .kdDerive
    ∧ decode 0x00FFFF7F#32 = .ok .nop
    ∧ decode 0x0100007F#32 = .error (.reservedBits 1#8)
    ∧ decode 0x0000000F#32 = .error (.unassignedOpcode 0x0F#8)

/-- R57: a word that agrees with a legal word on the fields its format uses, and on OPC and RSV, decodes to the same
command. -/
def Obligations.UnusedFieldsAreIgnored : Prop :=
  ∀ (w w' : Word) (i : Instr), decode w = .ok i → w' &&& usedBits i = w &&& usedBits i → decode w' = .ok i

/-- R61: exactly the words whose OPC is outside R59's table (0x00 among them) or whose RSV is not 0 are illegal; such a
word, written to CMD while IDLE, is accepted (BUSY rises, CMD holds it), and its complete step reports ILLEGAL_COMMAND
and changes no other state. -/
def Obligations.IllegalWordIsAcceptedAndChangesOnlyErr : Prop :=
  (∀ w : Word, (∃ i, decode w = .ok i) ↔ w.extractLsb' 24 8 = 0#8 ∧ (w.extractLsb' 0 8).toNat ∈ assignedOpcodes)
    ∧ ∀ (w : Word) (s : State), s.phase = .idle → s.env.resetPin = false →
      (w.extractLsb' 24 8 ≠ 0#8 ∨ (w.extractLsb' 0 8).toNat ∉ assignedOpcodes) →
      Sys2Proof.core.run 1
          { s with env := { s.env with moves := [.host (.write 0x000C#13 w), .sequencer] } }
        = .next { s with inflight := w, phase := .busy, done := false, err := .none,
                         env := { s.env with moves := [.sequencer] } }
      ∧ Sys2Proof.core.run 2
          { s with env := { s.env with moves := [.host (.write 0x000C#13 w), .sequencer] } }
        = .next { s with inflight := w, phase := .idle, done := true, err := .illegalCommand,
                         env := { s.env with moves := [] } }

/-! ## The sequencer (spec/10_state.md §7, spec/60_exceptions.md) -/

/-- The complete step runs the decoded command: with a legal command word in flight and the reset input released, a step
that is the sequencer's is `exec` of that command, on the state less the move it used up (R34).  That the moves are data in
the state, and that with no move left the sequencer alone goes on, is the model's choice (assumption 1, DESIGN CHOICE).
While IDLE, or with the reset input asserted, such a step completes nothing and changes nothing of the block (R33, R139). -/
def Obligations.StepRunsTheCommandInFlight : Prop :=
  (∀ (s : State) (i : Instr), s.phase = .busy → s.env.resetPin = false → decode s.inflight = .ok i →
    (s.env.moves = [] → step s = exec i s)
      ∧ ∀ ms, s.env.moves = .sequencer :: ms →
        step s = exec i { s with env := { s.env with moves := ms } })
    ∧ ∀ s : State, s.phase = .idle ∨ s.env.resetPin = true →
      (s.env.moves = [] → step s = .next s)
        ∧ ∀ ms, s.env.moves = .sequencer :: ms → step s = .next { s with env := { s.env with moves := ms } }

/-- R34, step 1: a host write of v to CMD with PHASE = IDLE sets INFLIGHT, raises BUSY and clears DONE and ERR, and
changes nothing else of the block.  The list of moves that the step uses up is the model's (assumption 1, DESIGN
CHOICE). -/
def Obligations.CmdWriteAcceptsTheWord : Prop :=
  ∀ (s : State) (v : Word) (ms : List Move), s.phase = .idle → s.env.resetPin = false →
    s.env.moves = .host (.write 0x000C#13 v) :: ms →
    step s = .next { s with inflight := v, phase := .busy, done := false, err := .none,
                            env := { s.env with moves := ms } }

/-- Every command's complete step answers a next state with PHASE = IDLE and DONE = 1, and leaves OVR, IE, CMD, B2CFG,
B2LEN, SEEDLEN, the byte registers only the host writes, and the host side as they were (R32, R34, R20). -/
def Obligations.CompletionSetsDoneAndKeepsTheHostRegisters : Prop :=
  ∀ (i : Instr) (s : State), ∃ t, exec i s = .next t ∧ t.phase = .idle ∧ t.done = true
    ∧ t.ovr = s.ovr ∧ t.ie = s.ie ∧ t.inflight = s.inflight ∧ t.b2cfg = s.b2cfg ∧ t.b2len = s.b2len
    ∧ t.seedlen = s.seedlen ∧ t.key = s.key ∧ t.salt = s.salt ∧ t.pers = s.pers ∧ t.data = s.data
    ∧ t.seed = s.seed ∧ t.env = s.env

/-- R127 (with the causes of R126 and the priority of R128): every command completes and reports exactly the code the
table gives it, under exactly the table's condition. -/
def Obligations.CommandsReportTheirErrorCodes : Prop :=
  ∀ (i : Instr) (s : State), ∃ t, exec i s = .next t ∧ t.err = expectedError i s

/-- R129: a command that reports an error leaves the state before it, apart from STATUS. -/
def Obligations.FailedCommandLeavesTheStateBefore : Prop :=
  ∀ (i : Instr) (s t : State), exec i s = .next t → t.err ≠ .none →
    t = { s with err := t.err, phase := .idle, done := true }

/-- The frame of every command at once: a location of the register window that is no destination of the command (R19,
R20, R144) and is not STATUS reads after the complete step as it read before. -/
def Obligations.CommandsWriteOnlyTheirDestinations : Prop :=
  ∀ (i : Instr) (s t : State) (l : Loc), exec i s = .next t → mayWrite i l = false → l ≠ .status →
    t.readLoc l = s.readLoc l

/-- R146: an accepted command completes.  From a state with a command in flight whose coming moves hold no reset (no
assertion of the reset input and no write of CTRL with SRST = 1), some step within their number plus one is its complete
step.  The bound rests on the model's choice that the sequencer alone goes on when no move is left (assumption 1, DESIGN
CHOICE).  And no step of the machine, from any state, stops it (assumption 18, DEDUCED). -/
def Obligations.AcceptedCommandCompletes : Prop :=
  (∀ s : State, ∃ t, step s = .next t)
  ∧ ∀ s : State, s.phase = .busy → s.env.resetPin = false →
    (∀ m ∈ s.env.moves, m ≠ .host .assertReset
      ∧ ∀ a w, m = .host (.write a w) → locOf a = .ctrl → w.getLsbD 1 = false) →
    ∃ n t, n ≤ s.env.moves.length + 1 ∧ Sys2Proof.core.run n s = .next t ∧ t.phase = .idle ∧ t.done = true
      ∧ t.inflight = s.inflight

/-- Every latency is admitted: for any k there are moves under which a command word accepted in the first step
completes after k further steps in which the host polls STATUS (R146; the moves are the model's, assumption 1). -/
def Obligations.EveryLatencyIsAdmitted : Prop :=
  ∀ (s : State) (w : Word) (k : Nat), s.phase = .idle → s.env.resetPin = false →
    let polls : List Move := List.replicate k (Move.host (.read 0x0008#13))
    ∃ t, step { s with env := { s.env with moves := .host (.write 0x000C#13 w) :: (polls ++ [.sequencer]) } } = .next t
      ∧ CompletesAfter t k

/-- R131: irq is bit 0 of CTRL and bit 1 of STATUS, and nothing else: so a completion raises it exactly when IE = 1,
with an error as with success, and an accept, a write of 1 to DONE, a write of IE = 0 and a reset lower it. -/
def Obligations.IrqIsEnableAndDone : Prop :=
  (∀ s : State, s.irq = (s.ctrlWord.getLsbD 0 && s.statusWord.getLsbD 1))
    ∧ (∀ (i : Instr) (s t : State), exec i s = .next t → t.irq = s.ie)
    ∧ (∀ (s : State) (v : Word), (s.accept v).irq = false)
    ∧ (∀ (s : State) (w : Word), w.getLsbD 1 = true → (s.writeStatus w).irq = false)
    ∧ (∀ (s : State) (w : Word), w.getLsbD 0 = false → (s.writeCtrl w).irq = false)
    ∧ (∀ s : State, s.softReset.irq = false ∧ s.assertReset.irq = false)

/-! ## The invariant -/

/-- The state after reset satisfies the invariant. -/
def Obligations.ResetMeetsTheInvariant : Prop := State.reset.Inv

/-- Every step keeps the invariant: BUFLEN ≤ 128, F1 = 0, F0 all ones exactly when FINALIZED, NN in 1..64 once
initialised, a fresh engine while UNINITIALIZED, DIGEST zero past NN when FINALIZED, DONE = 0 and ERR = 0 while BUSY,
EXPANDED[32..63] = PUBKEY, and reset values while the reset input is asserted. -/
def Obligations.StepKeepsTheInvariant : Prop :=
  ∀ s t : State, s.Inv → step s = .next t → t.Inv

/-! ## The register window (spec/20_memory.md, spec/70_reset_and_hazards.md) -/

/-- R39: every row of the address map, at every one of its words, is the location the window has there; the rows and FR's
512 words (R40) are the window's 2048 words. -/
def Obligations.WindowFollowsTheAddressMap : Prop :=
  (∀ row ∈ windowTable, ∀ m, m < row.2.1 → locOf (BitVec.ofNat 13 (row.1 + 4 * m)) = row.2.2 m)
    ∧ (windowTable.map fun row => row.2.1).sum + 512 = 2048

/-- R46: two addresses that differ only in bits [1:0] reach the same location.  R38, R50: a host access takes effect in
one step; a read while IDLE and out of reset returns the current value of the location its address reaches, and a write
is `busWrite` of that address and word, whose effect the window's statements give.  R48: a read changes nothing of the
block, in any phase.  The host's two bus accesses and the two changes of the reset input come as moves at the head of the
list in the state, which the step uses up (assumption 1, DESIGN CHOICE); rdata is the model's record of the word returned
(assumption 2, DESIGN CHOICE). -/
def Obligations.AddressLowBitsAreIgnoredAndReadsChangeNothing : Prop :=
  (∀ a a' : Offset, a.extractLsb' 2 11 = a'.extractLsb' 2 11 → locOf a = locOf a')
    ∧ ∀ (s : State) (ms : List Move),
      (∀ x : HostAction, s.env.moves = .host x :: ms →
        step s = .next ({ s with env := { s.env with moves := ms } }.hostAct x))
      ∧ (∀ (a : Offset) (w : Word), s.env.moves = .host (.write a w) :: ms →
        step s = .next ({ s with env := { s.env with moves := ms } }.busWrite a w))
      ∧ (∀ a : Offset, s.env.moves = .host (.read a) :: ms → s.phase = .idle → s.env.resetPin = false →
        step s = .next { s with env := { s.env with moves := ms, rdata := s.readLoc (locOf a) } })
      ∧ (∀ a : Offset, s.env.moves = .host (.read a) :: ms →
        ∃ v d, step s = .next { s with env := { s.env with moves := ms, rdata := v, draws := d } })
      ∧ (s.env.moves = .host .assertReset :: ms →
        step s = .next ({ s with env := { s.env with moves := ms } }.assertReset))
      ∧ (s.env.moves = .host .releaseReset :: ms →
        step s = .next ({ s with env := { s.env with moves := ms } }.releaseReset))

/-- While IDLE and out of reset, a location other than CTRL and STATUS reads back the bits a write stores there, and
keeps its other bits: all bits of a RW byte register, a limb or CMD, the field bits of B2CFG, B2LEN and SEEDLEN, none
of a read-only or reserved location (R39, R27, R40, R41, R43); and in every state B2CFG reads OUTLEN in bits 6:0, KEYLEN
in 14:8, SALTLEN in 20:16 and PERSLEN in 28:24, RESULT is NEG in bit 0, B2LEN, SEEDLEN and B2_BUFLEN hold their value in
bits 7:0 and B2_NN in bits 6:0, with every other bit 0 (R28, R29, R30, R31, R39). -/
def Obligations.WindowReadsBackWhatWasStored : Prop :=
  (∀ (s : State) (a : Offset) (w : Word), s.phase = .idle → s.env.resetPin = false →
    locOf a ≠ .ctrl → locOf a ≠ .status →
    (s.busWrite a w).readLoc (locOf a)
      = (w &&& storedBits (locOf a)) ||| (s.readLoc (locOf a) &&& ~~~(storedBits (locOf a))))
  ∧ ∀ s : State,
    (s.readLoc (locOf 0x0014#13)).extractLsb' 0 7 = s.b2cfg.outlen
    ∧ (s.readLoc (locOf 0x0014#13)).extractLsb' 8 7 = s.b2cfg.keylen
    ∧ (s.readLoc (locOf 0x0014#13)).extractLsb' 16 5 = s.b2cfg.saltlen
    ∧ (s.readLoc (locOf 0x0014#13)).extractLsb' 24 5 = s.b2cfg.perslen
    ∧ s.readLoc (locOf 0x0014#13) &&& 0xE0E08080#32 = 0#32
    ∧ s.readLoc (locOf 0x0010#13) = (if s.neg then 1#32 else 0#32)
    ∧ (s.readLoc (locOf 0x0018#13)).toNat = s.b2len.toNat
    ∧ (s.readLoc (locOf 0x001C#13)).toNat = s.seedlen.toNat
    ∧ (s.readLoc (locOf 0x0360#13)).toNat = s.b2.buflen.toNat
    ∧ (s.readLoc (locOf 0x0364#13)).toNat = s.b2.nn.toNat

/-- A write of a data or configuration location changes no other location of the window (R40, R41, R48). -/
def Obligations.WindowWriteLeavesOtherLocations : Prop :=
  ∀ (s : State) (a : Offset) (w : Word) (l : Loc), s.phase = .idle → s.env.resetPin = false →
    locOf a ≠ .ctrl → locOf a ≠ .status → locOf a ≠ .cmd → l ≠ locOf a →
    (s.busWrite a w).readLoc l = s.readLoc l

/-- R43: while BUSY = 0 a write to a reserved offset or a read-only register changes nothing at all, no reserved bit of
B2CFG, B2LEN, SEEDLEN, CTRL or STATUS is stored, and a reserved offset reads 0. -/
def Obligations.ReservedAndReadOnlyIgnoreWrites : Prop :=
  (∀ (s : State) (a : Offset) (w : Word), s.phase = .idle → storedBits (locOf a) = 0#32 →
      locOf a ≠ .ctrl → locOf a ≠ .status → s.busWrite a w = s)
    ∧ (∀ (s : State) (w : Word), (s.writeLoc .b2cfg w).readLoc .b2cfg &&& 0xE0E08080#32 = 0#32
        ∧ (s.writeLoc .b2len w).readLoc .b2len &&& 0xFFFFFF00#32 = 0#32
        ∧ (s.writeLoc .seedlen w).readLoc .seedlen &&& 0xFFFFFF00#32 = 0#32
        ∧ (s.writeLoc .ctrl w).readLoc .ctrl &&& 0xFFFFFFFE#32 = 0#32
        ∧ (s.writeLoc .status w).readLoc .status &&& 0xFFFFFC08#32 = 0#32)
    ∧ ∀ s : State, s.readLoc .reserved = 0#32

/-- R40: FR[r].l[i] is the word at 0x1000 + 0x40·r + 4·i and offsets 0x28..0x3F of a slot are reserved; a write of the
word while IDLE sets that one limb of that one register and nothing else. -/
def Obligations.FieldRegisterLimbsAreMapped : Prop :=
  (∀ r i : Nat, r < 32 → i < 10 → locOf (BitVec.ofNat 13 (0x1000 + 0x40 * r + 4 * i)) = .limb r i)
    ∧ (∀ r o : Nat, r < 32 → 0x28 ≤ o → o < 0x40 → locOf (BitVec.ofNat 13 (0x1000 + 0x40 * r + o)) = .reserved)
    ∧ ∀ (s : State) (r i : Nat) (w : Word), r < 32 → i < 10 → s.phase = .idle → s.env.resetPin = false →
      let t := s.busWrite (BitVec.ofNat 13 (0x1000 + 0x40 * r + 4 * i)) w
      s.readLoc (locOf (BitVec.ofNat 13 (0x1000 + 0x40 * r + 4 * i))) = (s.readFr r).limb i
      ∧ t = { s with fr := t.fr } ∧ ∀ r' i', r' < 32 → i' < 10 →
        (t.readFr r').limb i' = if r' = r ∧ i' = i then w else (s.readFr r').limb i'

/-- R41: byte X[k] is bits 8·(k mod 4)+7 : 8·(k mod 4) of word floor(k/4), on a read, and a write of word m sets the four
bytes of that word and no other.  The word at base + 4m is word m of KEY, SALT, PERS, DATA, DIGEST, SCALAR, SEED, PUBKEY,
EXPANDED, OUT32 or BUF, each at its own base (R39), and a write there while IDLE and out of reset sets that word of that
one register, for the six that the host may write (R20). -/
def Obligations.ByteRegistersArePackedLittleEndian : Prop :=
  (∀ (n : Nat) (x : Vector Byte n),
    (∀ k, k < n → (busWord x (k / 4)).extractLsb' (8 * (k % 4)) 8 = byteAt x k)
      ∧ ∀ (m : Nat) (w : Word) (k : Nat), k < n →
        byteAt (setBusWord x m w) k = if k / 4 = m then w.extractLsb' (8 * (k % 4)) 8 else byteAt x k)
  ∧ (∀ (s : State) (m : Nat),
    (m < 16 → s.readLoc (locOf (BitVec.ofNat 13 (0x0100 + 4 * m))) = busWord s.key m)
    ∧ (m < 4 → s.readLoc (locOf (BitVec.ofNat 13 (0x0140 + 4 * m))) = busWord s.salt m)
    ∧ (m < 4 → s.readLoc (locOf (BitVec.ofNat 13 (0x0150 + 4 * m))) = busWord s.pers m)
    ∧ (m < 32 → s.readLoc (locOf (BitVec.ofNat 13 (0x0180 + 4 * m))) = busWord s.data m)
    ∧ (m < 16 → s.readLoc (locOf (BitVec.ofNat 13 (0x0200 + 4 * m))) = busWord s.digest m)
    ∧ (m < 8 → s.readLoc (locOf (BitVec.ofNat 13 (0x0240 + 4 * m))) = busWord s.scalar m)
    ∧ (m < 8 → s.readLoc (locOf (BitVec.ofNat 13 (0x0260 + 4 * m))) = busWord s.seed m)
    ∧ (m < 8 → s.readLoc (locOf (BitVec.ofNat 13 (0x0280 + 4 * m))) = busWord s.pubkey m)
    ∧ (m < 16 → s.readLoc (locOf (BitVec.ofNat 13 (0x02A0 + 4 * m))) = busWord s.expanded m)
    ∧ (m < 8 → s.readLoc (locOf (BitVec.ofNat 13 (0x02E0 + 4 * m))) = busWord s.out32 m)
    ∧ (m < 32 → s.readLoc (locOf (BitVec.ofNat 13 (0x0380 + 4 * m))) = busWord s.b2.buf m))
  ∧ ∀ (s : State) (m : Nat) (w : Word), s.phase = .idle → s.env.resetPin = false →
    (m < 16 → s.busWrite (BitVec.ofNat 13 (0x0100 + 4 * m)) w = { s with key := setBusWord s.key m w })
    ∧ (m < 4 → s.busWrite (BitVec.ofNat 13 (0x0140 + 4 * m)) w = { s with salt := setBusWord s.salt m w })
    ∧ (m < 4 → s.busWrite (BitVec.ofNat 13 (0x0150 + 4 * m)) w = { s with pers := setBusWord s.pers m w })
    ∧ (m < 32 → s.busWrite (BitVec.ofNat 13 (0x0180 + 4 * m)) w = { s with data := setBusWord s.data m w })
    ∧ (m < 8 → s.busWrite (BitVec.ofNat 13 (0x0240 + 4 * m)) w = { s with scalar := setBusWord s.scalar m w })
    ∧ (m < 8 → s.busWrite (BitVec.ofNat 13 (0x0260 + 4 * m)) w = { s with seed := setBusWord s.seed m w })

/-- R42: H[i], T, F0 and F1 are on the bus least significant word first, at the offsets of R42. -/
def Obligations.WideHashStateIsLowWordFirst : Prop :=
  ∀ s : State,
    (∀ i : Fin 8, s.readLoc (locOf (BitVec.ofNat 13 (0x0304 + 8 * i.val)))
        ++ s.readLoc (locOf (BitVec.ofNat 13 (0x0300 + 8 * i.val))) = s.b2.h[i])
    ∧ (∀ m, m < 4 → s.readLoc (locOf (BitVec.ofNat 13 (0x0340 + 4 * m))) = s.b2.t.extractLsb' (32 * m) 32)
    ∧ s.readLoc (locOf 0x0354#13) ++ s.readLoc (locOf 0x0350#13) = s.b2.f0
    ∧ s.readLoc (locOf 0x035C#13) ++ s.readLoc (locOf 0x0358#13) = s.b2.f1

/-- The host's read of STATUS is the word that holds BUSY in bit 0, DONE in 1, OVR in 2, ERR in 7:4 as R126 numbers the six
codes, B2ST in 9:8 as R22 numbers the four engine states, and 0 elsewhere (R26, R33); a write clears DONE and OVR where 1
is written and no other bit.  The host's read of CTRL is IE in bit 0 and 0 elsewhere, SRST among it (R25). -/
def Obligations.StatusBitsAndWriteOneToClear : Prop :=
  ∀ (s : State) (w : Word),
    s.readLoc (locOf 0x0008#13) = s.statusWord
    ∧ s.statusWord.getLsbD 0 = decide (s.phase = .busy) ∧ s.statusWord.getLsbD 1 = s.done
    ∧ s.statusWord.getLsbD 2 = s.ovr ∧ s.statusWord.getLsbD 3 = false
    ∧ s.statusWord.extractLsb' 4 4 = (match s.err with
      | .none => 0#4
      | .illegalCommand => 1#4
      | .badOperand => 2#4
      | .stateError => 3#4
      | .configError => 4#4
      | .invalidInput => 5#4)
    ∧ s.statusWord.extractLsb' 8 2 = (match s.b2.engine with
      | .uninitialized => 0#2
      | .initialized => 1#2
      | .updating => 2#2
      | .finalized => 3#2)
    ∧ s.statusWord.extractLsb' 10 22 = 0#22
    ∧ (s.writeStatus w).statusWord = s.statusWord &&& ~~~(w &&& 0x6#32)
    ∧ s.writeStatus w = { s with done := (s.writeStatus w).done, ovr := (s.writeStatus w).ovr }
    ∧ s.readLoc (locOf 0x0004#13) = s.ctrlWord
    ∧ s.ctrlWord.getLsbD 0 = s.ie ∧ s.ctrlWord.extractLsb' 1 31 = 0#31

/-- R143: while BUSY = 1 a write to any location but CTRL and STATUS is dropped and sets OVR.  A write to CTRL or STATUS is
performed whether BUSY is 0 or 1: STATUS clears DONE and OVR where 1 is written, CTRL with SRST = 1 resets the block and
else stores IE, and nothing else changes (R25, R26).  The complete step leaves OVR as it is. -/
def Obligations.BusyWritesAreDroppedAndSetOvr : Prop :=
  ∀ (s : State) (a : Offset) (w : Word), s.env.resetPin = false →
    (s.phase = .busy → locOf a ≠ .ctrl → locOf a ≠ .status → s.busWrite a w = { s with ovr := true })
      ∧ (locOf a = .status →
        s.busWrite a w = { s with done := s.done && !w.getLsbD 1, ovr := s.ovr && !w.getLsbD 2 })
      ∧ (locOf a = .ctrl → w.getLsbD 1 = true → s.busWrite a w = { State.reset with env := s.env })
      ∧ (locOf a = .ctrl → w.getLsbD 1 = false → s.busWrite a w = { s with ie := w.getLsbD 0 })
      ∧ locOf 0x0004#13 = .ctrl ∧ locOf 0x0008#13 = .status
      ∧ ∀ (i : Instr) (t : State), exec i s = .next t → t.ovr = s.ovr

/-- R144: while BUSY = 1 a read of a location the in-flight command may write returns any value (nothing is said of
it), and a read of any other location returns its current value; ID, CTRL, STATUS, CMD and reserved offsets are never such
a destination; no read changes the block.  That an any-value read advances the draw counter is the model's choice
(assumption 4, DESIGN CHOICE), and that an illegal word has no destination, so that every read under it returns the
current value, is read from R61 and R144 by inference (assumption 5, DEDUCED). -/
def Obligations.BusyReadsOfDestinationsReturnAnyValue : Prop :=
  ∀ (s : State) (a : Offset), s.phase = .busy → s.env.resetPin = false →
    (∀ i, decode s.inflight = .ok i → mayWrite i (locOf a) = true →
      ∃ v, s.busRead a = { s with env := { s.env with rdata := v, draws := s.env.draws + 1 } })
    ∧ (∀ i, decode s.inflight = .ok i → mayWrite i (locOf a) = false →
      s.busRead a = { s with env := { s.env with rdata := s.readLoc (locOf a) } })
    ∧ (∀ e, decode s.inflight = .error e →
      s.busRead a = { s with env := { s.env with rdata := s.readLoc (locOf a) } })
    ∧ ∀ i : Instr, locOf a ∈ [Loc.id, .ctrl, .status, .cmd, .reserved] → mayWrite i (locOf a) = false

/-! ## Reset (spec/70_reset_and_hazards.md §1) -/

/-- R140: a write with SRST = 1 to CTRL resets every piece of state, CTRL.IE included, whether BUSY is 0 or 1 and
whatever the other bits of the write; a command in flight never completes and SRST reads back 0. -/
def Obligations.SoftResetGivesTheResetState : Prop :=
  ∀ (s : State) (w : Word), s.env.resetPin = false → w.getLsbD 1 = true →
    s.busWrite 0x0004#13 w = { State.reset with env := s.env }
      ∧ (s.busWrite 0x0004#13 w).ctrlWord = 0#32

/-- R139: asserting the reset input gives every piece of state its reset value; while it is asserted the sequencer
completes nothing and host accesses leave the block as it is; its release leaves the reset values.  The two changes of the
input as atomic steps and the draw counter are the model's (assumptions 13 and 4, DESIGN CHOICE). -/
def Obligations.HardwareResetHoldsTheBlock : Prop :=
  ∀ s : State,
    s.hostAct .assertReset = { State.reset with env := { s.env with resetPin := true } }
    ∧ (s.env.resetPin = true →
        s.hostAct .releaseReset = { State.reset with env := { s.env with resetPin := false } }
        ∧ s.sequencerTurn = .wait s
        ∧ (∀ a w, s.hostAct (.write a w) = s)
        ∧ ∀ a, ∃ v, s.hostAct (.read a) = { s with env := { s.env with rdata := v, draws := s.env.draws + 1 } })

/-- R36: after reset ID reads 0x4E475237, B2CFG 0x40, SEEDLEN 32 and every other offset of the window 0, no command is in
flight, the engine is UNINITIALIZED and irq is 0. -/
def Obligations.ResetStateIsTheTable : Prop :=
  (∀ a : Offset, State.reset.readLoc (locOf a) = match locOf a with
      | .id => 0x4E475237#32
      | .b2cfg => 0x00000040#32
      | .seedlen => 0x00000020#32
      | _ => 0#32)
    ∧ State.reset.phase = .idle ∧ State.reset.b2.engine = .uninitialized ∧ State.reset.irq = false

/-! ## Field commands (spec/40_field.md) -/

/-- FE_ZERO, FE_ONE, FE_COPY and FE_CMOV write the ten limbs of FR[rd], and nothing but STATUS besides; FE_CMOV gives FR[ra]
when c = 0 and FR[rb] when c = 1, bit-exactly (R73, R74, R75, R84). -/
def Obligations.ConstantsAndMovesWriteTheirRegister : Prop :=
  ∀ (s : State) (rd ra rb : Reg),
    exec (.feZero rd) s = .next { s with
      fr := s.fr.set rd.val ⟨0, 0, 0, 0, 0, 0, 0, 0, 0, 0⟩, err := .none, phase := .idle, done := true }
    ∧ exec (.feOne rd) s = .next { s with
      fr := s.fr.set rd.val ⟨1, 0, 0, 0, 0, 0, 0, 0, 0, 0⟩, err := .none, phase := .idle, done := true }
    ∧ exec (.feCopy rd ra) s = .next { s with
      fr := s.fr.set rd.val s.fr[ra.val], err := .none, phase := .idle, done := true }
    ∧ exec (.feCmov rd ra rb false) s = .next { s with
      fr := s.fr.set rd.val s.fr[ra.val], err := .none, phase := .idle, done := true }
    ∧ exec (.feCmov rd ra rb true) s = .next { s with
      fr := s.fr.set rd.val s.fr[rb.val], err := .none, phase := .idle, done := true }

/-- FE_ADD, FE_SUB and FE_NEG: limb i of FR[rd] becomes the 32-bit wrap of the integer sum, difference or negation of
limb i of the sources, with no carry between limbs; sources are read first, so rd may be ra or rb; nothing but STATUS
changes besides (R76, R77, R78). -/
def Obligations.AddSubNegAreLimbWise : Prop :=
  ∀ (s : State) (rd ra rb : Reg),
    (∃ f, exec (.feAdd rd ra rb) s = .next { s with
          fr := s.fr.set rd.val f, err := .none, phase := .idle, done := true }
        ∧ ∀ i, i < 10 → f.int i = s32 ((s.readFr ra.val).int i + (s.readFr rb.val).int i))
    ∧ (∃ f, exec (.feSub rd ra rb) s = .next { s with
          fr := s.fr.set rd.val f, err := .none, phase := .idle, done := true }
        ∧ ∀ i, i < 10 → f.int i = s32 ((s.readFr ra.val).int i - (s.readFr rb.val).int i))
    ∧ (∃ f, exec (.feNeg rd ra) s = .next { s with
          fr := s.fr.set rd.val f, err := .none, phase := .idle, done := true }
        ∧ ∀ i, i < 10 → f.int i = s32 (-(s.readFr ra.val).int i))

/-- MULSUM gives the ten signed 64-bit sums of R68's double loop on the integers the limbs stand for. -/
def Obligations.MulsumIsTheDoubleLoop : Prop :=
  ∀ (f g : FieldElement) (k : Nat), k < 10 → ((mulsum f g).get k).toInt = (mulsumLoop f g).getD k 0

/-- CARRY gives, for all ten sums, the limbs of R69's loop on the integers they stand for: the twelve carries in R69's
ORDER, then s32 of each sum.  One step of the chain, as the loop body writes it, takes a rounded carry out of sum k into
sum k+1, or, times 19, into sum 0, and leaves the other sums unchanged. -/
def Obligations.CarryStepRoundsAndPropagates : Prop :=
  (∀ (h : Wide) (i : Nat), i < 10 → (carry h).int i = (carryLoop h).getD i 0)
  ∧ ∀ (h : Wide) (k : Nat), k < 10 →
    let c := s64 ((h.get k).toInt + 2 ^ (limbWidth k - 1)) / 2 ^ limbWidth k
    ∀ j, j < 10 → ((carryStep h k).get j).toInt =
      if j = k then s64 ((h.get k).toInt - s64 (c * 2 ^ limbWidth k))
      else if k = 9 ∧ j = 0 then s64 ((h.get 0).toInt + s64 (19 * c))
      else if j = k + 1 then s64 ((h.get j).toInt + c)
      else (h.get j).toInt

/-- FE_MUL, FE_SQ and FE_SQ2 complete for all sources and write the carried sums of limb products; FE_SQ's result is
bit-identical to FE_MUL's with the same source twice, and FE_MUL is commutative bit-exactly (R79, R80, R81). -/
def Obligations.MultipliesWriteCarriedProducts : Prop :=
  (∀ (s : State) (rd ra rb : Reg),
    exec (.feMul rd ra rb) s = .next { s with
      fr := s.fr.set rd.val (carry (mulsum s.fr[ra.val] s.fr[rb.val])), err := .none, phase := .idle, done := true }
    ∧ exec (.feSq rd ra) s = exec (.feMul rd ra ra) s
    ∧ exec (.feMul rd ra rb) s = exec (.feMul rd rb ra) s
    ∧ ∃ h : Wide, exec (.feSq2 rd ra) s = .next { s with
        fr := s.fr.set rd.val (carry h), err := .none, phase := .idle, done := true }
      ∧ ∀ k, k < 10 → (h.get k).toInt = s64 (2 * ((mulsum s.fr[ra.val] s.fr[ra.val]).get k).toInt))

/-- FE_MUL's function, for inputs in B3, gives a result in class T that is congruent to the product; FE_SQ2's, for an
input in B2, one that is congruent to 2f² (R66 contracts 1 and 2, R79, R81, R87 law 3). -/
def Obligations.MultipliesAreCongruentInTheirDomains : Prop :=
  (∀ f g : FieldElement, f.Bounded 3 → g.Bounded 3 → (feMul f g).Tight ∧ CongrP (feMul f g).val (f.val * g.val))
    ∧ ∀ f : FieldElement, f.Bounded 2 → (feSq2 f).Tight ∧ CongrP (feSq2 f).val (2 * f.val ^ 2)

/-- REDUCE gives, for every input, the ten limbs of R70's two loops on the integers the limbs stand for. -/
def Obligations.ReduceIsTheTwoLoops : Prop :=
  ∀ (f : FieldElement) (i : Nat), i < 10 → (feReduce f).int i = (reduceLoop f).getD i 0

/-- FE_REDUCE completes for every source and every limb it writes is in [0, 2^w(i)), for every input; for an input in B3
what it writes is the canonical form of val(f) mod p, so congruent inputs reduce to identical limbs and reducing twice
is reducing once (R66 contract 3, R70, R82, R87 law 4). -/
def Obligations.ReduceIsCanonicalInItsDomain : Prop :=
  (∀ (s : State) (rd ra : Reg), ∃ f : FieldElement, exec (.feReduce rd ra) s = .next { s with
      fr := s.fr.set rd.val f, err := .none, phase := .idle, done := true }
    ∧ f = feReduce s.fr[ra.val] ∧ f.InRange)
  ∧ ∀ f : FieldElement, f.Bounded 3 →
    (feReduce f).Canonical ∧ (feReduce f).val = f.val % (fieldPrime : Int) ∧ feReduce f = canon (feReduce f).val.toNat
      ∧ feReduce (feReduce f) = feReduce f

/-- R71: for limbs in range, PACK's bytes are LE_32 of Σ h[i]·2^pos(i), they are those of R71's table of shifted limbs, and
bit 7 of byte 31 is 0. -/
def Obligations.PackTableGivesTheBytes : Prop :=
  ∀ h : FieldElement, h.InRange →
    (leint (fePack h).toList : Int) = h.val
      ∧ (∀ k, k < 32 → byteAt (fePack h) k = packTableByte h k) ∧ (byteAt (fePack h) 31).getLsbD 7 = false

/-- FE_ISNEG and FE_TOBYTES complete for every source: RESULT.NEG becomes bit 0 of val(REDUCE(FR[ra])), OUT32 becomes
LE_32 of it, and nothing but STATUS changes besides, no field register among them (R85, R86). -/
def Obligations.SignAndBytesAreOfTheReducedValue : Prop :=
  ∀ (s : State) (ra : Reg),
    exec (.feIsneg ra) s = .next { s with
      neg := decide ((feReduce s.fr[ra.val]).val % 2 = 1), err := .none, phase := .idle, done := true }
    ∧ ∃ b, exec (.feTobytes ra) s = .next { s with out32 := b, err := .none, phase := .idle, done := true }
      ∧ (leint b.toList : Int) = (feReduce s.fr[ra.val]).val

/-- FE_INV completes for every source and writes the limbs of R72's chain INVCHAIN, each of its lines written out in FE_SQ's
and FE_MUL's functions, for every input; that is the function feInvert of the other statements; and for z in B3 it is in
class T and congruent to z^(2^255-21); so it denotes 0 when z ≡ 0 (R72, R83, R66 contract 5). -/
def Obligations.InvertIsThePowerPMinusTwo : Prop :=
  ∀ (s : State) (rd ra : Reg), ∃ f : FieldElement, exec (.feInv rd ra) s = .next { s with
      fr := s.fr.set rd.val f, err := .none, phase := .idle, done := true }
    ∧ f = feInvert s.fr[ra.val]
    ∧ (let z := s.fr[ra.val]
      let sqn := fun (x : FieldElement) (n : Nat) => Nat.iterate feSq n x
      let z2 := feSq z
      let z9 := feMul z (sqn z2 2)
      let z11 := feMul z2 z9
      let z2_5_0 := feMul z9 (feSq z11)
      let z2_10_0 := feMul (sqn z2_5_0 5) z2_5_0
      let z2_20_0 := feMul (sqn z2_10_0 10) z2_10_0
      let z2_40_0 := feMul (sqn z2_20_0 20) z2_20_0
      let z2_50_0 := feMul (sqn z2_40_0 10) z2_10_0
      let z2_100_0 := feMul (sqn z2_50_0 50) z2_50_0
      let z2_200_0 := feMul (sqn z2_100_0 100) z2_100_0
      let z2_250_0 := feMul (sqn z2_200_0 50) z2_50_0
      f = feMul (sqn z2_250_0 5) z11)
    ∧ ((s.readFr ra.val).Bounded 3 → f.Tight ∧ CongrP f.val ((s.readFr ra.val).val ^ (2 ^ 255 - 21)))
    ∧ ((s.readFr ra.val).Bounded 3 → CongrP (s.readFr ra.val).val 0 → CongrP f.val 0)

/-- REDUCE(FE_MUL(a, FE_INV(a))) = [1, 0, …, 0] for every a in B3 that is not 0 mod p (R83, R87 law 2). -/
def Obligations.InverseTimesElementReducesToOne : Prop :=
  ∀ a : FieldElement, a.Bounded 3 → ¬ CongrP a.val 0 → feReduce (feMul a (feInvert a)) = feOne

/-! ## Group commands (spec/41_group.md) -/

/-- GE_ID and GE_E2P complete where their groups fit and write exactly their group: (0, 1, 1, 0), and bit-exact copies of
X, Y, Z (R93, R98, R92). -/
def Obligations.IdentityAndE2PWriteTheirGroups : Prop :=
  (∀ (s : State) (rd : Reg), rd.val ≤ 28 → exec (.geId rd) s = .next { s with
      fr := (((s.fr.setIfInBounds rd.val ⟨0, 0, 0, 0, 0, 0, 0, 0, 0, 0⟩).setIfInBounds (rd.val + 1)
        ⟨1, 0, 0, 0, 0, 0, 0, 0, 0, 0⟩).setIfInBounds (rd.val + 2)
        ⟨1, 0, 0, 0, 0, 0, 0, 0, 0, 0⟩).setIfInBounds (rd.val + 3) ⟨0, 0, 0, 0, 0, 0, 0, 0, 0, 0⟩,
      err := .none, phase := .idle, done := true })
    ∧ ∀ (s : State) (rd ra : Reg), rd.val ≤ 29 → ra.val ≤ 29 → exec (.geE2p rd ra) s = .next { s with
      fr := ((s.fr.setIfInBounds rd.val (s.readFr ra.val)).setIfInBounds (rd.val + 1)
        (s.readFr (ra.val + 1))).setIfInBounds (rd.val + 2) (s.readFr (ra.val + 2)),
      err := .none, phase := .idle, done := true }

/-- GE_DBL completes where its groups fit and writes exactly G(rd, 4), with the limbs of R94's pseudocode for every
source: Y3 = YY + XX, Z3 = YY - XX, X3 = AA - Y3, T3 = B - Z3, by the field commands' functions; for 1-bounded X, Y, Z
(class T or canonical among them) the values are X3 ≡ 2XY, Y3 ≡ Y² + X², Z3 ≡ Y² - X² and T3 ≡ 2Z² - (Y² - X²) (R94, R67). -/
def Obligations.DoublingFormulaOnValues : Prop :=
  ∀ (s : State) (rd ra : Reg), rd.val ≤ 28 → ra.val ≤ 29 →
    let fx := s.readFr ra.val
    let fy := s.readFr (ra.val + 1)
    let fz := s.readFr (ra.val + 2)
    ∃ x3 y3 z3 t3 : FieldElement, exec (.geDbl rd ra) s = .next { s with
        fr := (((s.fr.setIfInBounds rd.val x3).setIfInBounds (rd.val + 1) y3).setIfInBounds (rd.val + 2)
          z3).setIfInBounds (rd.val + 3) t3,
        err := .none, phase := .idle, done := true }
      ∧ y3 = feAdd (feSq fy) (feSq fx) ∧ z3 = feSub (feSq fy) (feSq fx)
      ∧ x3 = feSub (feSq (feAdd fx fy)) y3 ∧ t3 = feSub (feSq2 fz) z3
      ∧ (fx.Bounded 1 → fy.Bounded 1 → fz.Bounded 1 →
        CongrP x3.val (2 * fx.val * fy.val) ∧ CongrP y3.val (fy.val ^ 2 + fx.val ^ 2)
          ∧ CongrP z3.val (fy.val ^ 2 - fx.val ^ 2)
          ∧ CongrP t3.val (2 * fz.val ^ 2 - (fy.val ^ 2 - fx.val ^ 2)))

/-- GE_MADD completes where its groups fit and writes exactly G(rd, 4), with the limbs of R95's pseudocode for every source:
A - B, A + B, D + C and D - C by the field commands' functions; for 1-bounded operands (class T or canonical among them)
the values are A - B, A + B, 2Z + C and 2Z - C with A = (Y+X)·ypx, B = (Y-X)·ymx, C = T·xy2d; and where G(rb, 3) holds the
precomputed form of an affine (x2, y2), these are twice the numerators and denominators of the Edwards addition law
(R95, R67, R90, R103). -/
def Obligations.MixedAdditionFormulaOnValues : Prop :=
  ∀ (s : State) (rd ra rb : Reg), rd.val ≤ 28 → ra.val ≤ 28 → rb.val ≤ 29 →
    let fx := s.readFr ra.val
    let fy := s.readFr (ra.val + 1)
    let fz := s.readFr (ra.val + 2)
    let ft := s.readFr (ra.val + 3)
    let ypx := s.readFr rb.val
    let ymx := s.readFr (rb.val + 1)
    let xy2d := s.readFr (rb.val + 2)
    ∃ x3 y3 z3 t3 : FieldElement, exec (.geMadd rd ra rb) s = .next { s with
        fr := (((s.fr.setIfInBounds rd.val x3).setIfInBounds (rd.val + 1) y3).setIfInBounds (rd.val + 2)
          z3).setIfInBounds (rd.val + 3) t3,
        err := .none, phase := .idle, done := true }
      ∧ x3 = feSub (feMul (feAdd fy fx) ypx) (feMul (feSub fy fx) ymx)
      ∧ y3 = feAdd (feMul (feAdd fy fx) ypx) (feMul (feSub fy fx) ymx)
      ∧ z3 = feAdd (feAdd fz fz) (feMul xy2d ft) ∧ t3 = feSub (feAdd fz fz) (feMul xy2d ft)
      ∧ ((∀ j, j < 4 → (s.readFr (ra.val + j)).Bounded 1) → (∀ j, j < 3 → (s.readFr (rb.val + j)).Bounded 1) →
        let x := fx.val
        let y := fy.val
        let z := fz.val
        let t := ft.val
        let a := (y + x) * ypx.val
        let b := (y - x) * ymx.val
        let c := xy2d.val * t
        CongrP x3.val (a - b) ∧ CongrP y3.val (a + b) ∧ CongrP z3.val (2 * z + c) ∧ CongrP t3.val (2 * z - c)
          ∧ ∀ x2 y2 : Int, CongrP ypx.val (y2 + x2) → CongrP ymx.val (y2 - x2) →
            CongrP xy2d.val (2 * curveD * x2 * y2) →
            CongrP x3.val (2 * (x * y2 + y * x2)) ∧ CongrP y3.val (2 * (y * y2 + x * x2))
              ∧ CongrP z3.val (2 * (z + curveD * x2 * y2 * t)) ∧ CongrP t3.val (2 * (z - curveD * x2 * y2 * t)))

/-- GE_C2P and GE_C2E complete where their groups fit and write the products X·T, Y·Z, Z·T (and X·Y); for coordinates
in B3 the extended result is valid, X'·Y' ≡ Z'·T' (R96, R97). -/
def Obligations.ConversionsMultiplyCoordinates : Prop :=
  (∀ (s : State) (rd ra : Reg), rd.val ≤ 29 → ra.val ≤ 28 → exec (.geC2p rd ra) s = .next { s with
      fr := ((s.fr.setIfInBounds rd.val (feMul (s.readFr ra.val) (s.readFr (ra.val + 3)))).setIfInBounds
        (rd.val + 1) (feMul (s.readFr (ra.val + 1)) (s.readFr (ra.val + 2)))).setIfInBounds
        (rd.val + 2) (feMul (s.readFr (ra.val + 2)) (s.readFr (ra.val + 3))),
      err := .none, phase := .idle, done := true })
    ∧ ∀ (s : State) (rd ra : Reg), rd.val ≤ 28 → ra.val ≤ 28 →
      ∃ x y z t : FieldElement, exec (.geC2e rd ra) s = .next { s with
          fr := (((s.fr.setIfInBounds rd.val x).setIfInBounds (rd.val + 1) y).setIfInBounds (rd.val + 2)
            z).setIfInBounds (rd.val + 3) t,
          err := .none, phase := .idle, done := true }
        ∧ x = feMul (s.readFr ra.val) (s.readFr (ra.val + 3))
        ∧ y = feMul (s.readFr (ra.val + 1)) (s.readFr (ra.val + 2))
        ∧ z = feMul (s.readFr (ra.val + 2)) (s.readFr (ra.val + 3))
        ∧ t = feMul (s.readFr ra.val) (s.readFr (ra.val + 1))
        ∧ ((∀ j, j < 4 → (s.readFr (ra.val + j)).Bounded 3) → CongrP (x.val * y.val) (z.val * t.val))

/-- GE_ENCODE completes where its group fits and writes OUT32 alone: as an integer, the reduced value of y = Y·Z⁻¹ with
bit 255 the parity of the reduced x = X·Z⁻¹, Z⁻¹ by INVCHAIN; RESULT is not written (R99). -/
def Obligations.EncodePacksYAndTheSignOfX : Prop :=
  ∀ (s : State) (ra : Reg), ra.val ≤ 29 →
    ∃ b, exec (.geEncode ra) s = .next { s with out32 := b, err := .none, phase := .idle, done := true }
      ∧ (leint b.toList : Int) =
        (feReduce (feMul (s.readFr (ra.val + 1)) (feInvert (s.readFr (ra.val + 2))))).val
          + 2 ^ 255 * ((feReduce (feMul (s.readFr ra.val) (feInvert (s.readFr (ra.val + 2))))).val % 2)

/-! ## Fixed-base commands (spec/42_scalarmult.md) -/

/-- R103: every entry of the table is the affine point (j+1)·256^i·B computed by the Edwards addition law from the base
point, and ROM[i][j] is its canonical precomputed form. -/
def Obligations.RomHoldsTheMultiplesOfTheBasePoint : Prop :=
  ∀ i j : Nat, i < 32 → j < 8 → romPoint i j = romFormula i j
    ∧ rom i j = ⟨canon ((romFormula i j).2 + (romFormula i j).1),
        canon ((romFormula i j).2 + fieldPrime - (romFormula i j).1),
        canon (2 * curveD * (romFormula i j).1 * (romFormula i j).2)⟩

/-- SC_CLAMP completes in every state and writes SCALAR alone: byte 0 loses bits 2:0, byte 31 loses bit 7 and gains bit 6,
bytes 1..30 stay; the scalar is then a multiple of 8 in [2^254, 2^255), and clamping again changes nothing (R104). -/
def Obligations.ClampGivesAMultipleOfEight : Prop :=
  ∀ s : State, ∃ b, exec .scClamp s = .next { s with scalar := b, err := .none, phase := .idle, done := true }
    ∧ byteAt b 0 = byteAt s.scalar 0 &&& 0xF8#8 ∧ byteAt b 31 = (byteAt s.scalar 31 &&& 0x7F#8) ||| 0x40#8
    ∧ (∀ k, 1 ≤ k → k ≤ 30 → byteAt b k = byteAt s.scalar k)
    ∧ leint b.toList % 8 = 0 ∧ 2 ^ 254 ≤ leint b.toList ∧ leint b.toList < 2 ^ 255 ∧ clamp b = b

/-- GE_SELECT completes where its group fits, for every block and digit, and writes exactly G(rd, 3) with SELECT's entry:
the table entry for a digit in 1..8, its negative (y+x and y-x swapped, 2dxy negated) for -1..-8, and the identity
(1, 1, 0) for 0 and beyond ±8 (R105, R106). -/
def Obligations.GeSelectReadsTheTableByTheDigit : Prop :=
  (∀ (s : State) (rd : Reg) (blk : Block) (dig : Int), rd.val ≤ 29 →
    exec (.geSelect rd blk dig) s = .next { s with
      fr := ((s.fr.setIfInBounds rd.val (select blk.val dig).ypx).setIfInBounds (rd.val + 1)
        (select blk.val dig).ymx).setIfInBounds (rd.val + 2) (select blk.val dig).xy2d,
      err := .none, phase := .idle, done := true })
  ∧ ∀ (blk : Nat) (dig : Int),
    (1 ≤ dig → dig ≤ 8 → select blk dig = rom blk (dig.toNat - 1))
    ∧ (-8 ≤ dig → dig ≤ -1 → select blk dig =
        ⟨(rom blk ((-dig).toNat - 1)).ymx, (rom blk ((-dig).toNat - 1)).ypx,
          feNeg (rom blk ((-dig).toNat - 1)).xy2d⟩)
    ∧ (dig = 0 ∨ 8 < dig ∨ dig < -8 → select blk dig = ⟨feOne, feOne, FieldElement.zero⟩)

/-- R107: DIGITS gives 64 digits whose weighted sum is the scalar, the first 63 in [-8, 7] and the last in [0, 16]; for a
clamped scalar the last is in [4, 8]. -/
def Obligations.DigitsSumToTheScalar : Prop :=
  ∀ a : Vector Byte 32,
    (digits a).length = 64
    ∧ ((List.range 64).map fun i => (digits a).getD i 0 * 16 ^ i).sum = (leint a.toList : Int)
    ∧ (∀ i, i < 63 → -8 ≤ (digits a).getD i 0 ∧ (digits a).getD i 0 ≤ 7)
    ∧ 0 ≤ (digits a).getD 63 0 ∧ (digits a).getD 63 0 ≤ 16
    ∧ 4 ≤ (digits (clamp a)).getD 63 0 ∧ (digits (clamp a)).getD 63 0 ≤ 8

/-- GE_SMULB completes where its group fits, for every SCALAR, leaves SCALAR unchanged and writes exactly G(rd, 4): an odd
pass of 32 selects and mixed additions from the identity, four doublings, and an even pass of 32 (R108). -/
def Obligations.GeSmulbRunsTheWindowedMultiplier : Prop :=
  ∀ (s : State) (rd : Reg), rd.val ≤ 28 →
    let add := fun (h : Extended) (i : Nat) =>
      completedToExtended (pointMadd h (select (i / 2) ((digits s.scalar).getD i 0)))
    let odd := (List.range 32).foldl (fun h k => add h (2 * k + 1)) ⟨feZero, feOne, feOne, feZero⟩
    let twice := fun (p : Projective) => completedToProjective (pointDouble p)
    let mid := completedToExtended (pointDouble (twice (twice (twice ⟨odd.x, odd.y, odd.z⟩))))
    let h := (List.range 32).foldl (fun h k => add h (2 * k)) mid
    exec (.geSmulb rd) s = .next { s with
      fr := (((s.fr.setIfInBounds rd.val h.x).setIfInBounds (rd.val + 1) h.y).setIfInBounds (rd.val + 2)
        h.z).setIfInBounds (rd.val + 3) h.t,
      err := .none, phase := .idle, done := true }

/-- The multiplier's result for any SCALAR is an extended point in class T with X·Y ≡ Z·T (R108, R97, R67). -/
def Obligations.MultiplierResultIsTightAndExtended : Prop :=
  ∀ a : Vector Byte 32,
    (scalarMultBase a).x.Tight ∧ (scalarMultBase a).y.Tight ∧ (scalarMultBase a).z.Tight
    ∧ (scalarMultBase a).t.Tight
    ∧ CongrP ((scalarMultBase a).x.val * (scalarMultBase a).y.val)
        ((scalarMultBase a).z.val * (scalarMultBase a).t.val)

/-! ## Hash commands (spec/43_blake2b.md) -/

/-- R117: for a legal configuration and B2LEN ≤ 128, each hash command moves the engine as the table says, or completes
with STATE_ERROR and changes neither the engine nor DIGEST; with B2LEN > 128 B2_UPDATE fails with BAD_OPERAND in every
state, and with an illegal configuration B2_INIT fails with CONFIG_ERROR in every state. -/
def Obligations.EngineFollowsTheStateTable : Prop :=
  (∀ (i : Instr) (s t : State), i ∈ [Instr.b2Init, .b2Update, .b2Final] → s.b2cfg.legal = true →
      s.b2len.toNat ≤ 128 → exec i s = .next t →
      match engineAfter i s.b2.engine with
      | .ok e => t.b2.engine = e ∧ t.err = .none
      | .error c => t.b2 = s.b2 ∧ t.digest = s.digest ∧ t.err = c)
    ∧ (∀ s : State, 128 < s.b2len.toNat →
      exec .b2Update s = .next { s with err := .badOperand, phase := .idle, done := true })
    ∧ ∀ s : State, s.b2cfg.legal = false →
      exec .b2Init s = .next { s with err := .configError, phase := .idle, done := true }

/-- B2_INIT completes in every engine state under a legal configuration: T, F0, F1 are 0, NN is OUTLEN, H[i] is R111's IV[i]
XOR word i of the parameter block, BUF is the key padded with zeros, BUFLEN is 128 with a key and 0 without, DIGEST and all
else is unchanged (R118, R116). -/
def Obligations.B2InitBuildsTheContext : Prop :=
  ∀ s : State, s.b2cfg.legal = true →
    ∃ b : Blake2bState, exec .b2Init s = .next { s with b2 := b, err := .none, phase := .idle, done := true }
      ∧ b.engine = .initialized ∧ b.t = 0#128 ∧ b.f0 = 0#64 ∧ b.f1 = 0#64 ∧ b.nn = s.b2cfg.outlen
      ∧ b.buflen.toNat = (if s.b2cfg.keylen.toNat > 0 then 128 else 0)
      ∧ (∀ k, k < 128 → byteAt b.buf k = if k < s.b2cfg.keylen.toNat then byteAt s.key k else 0#8)
      ∧ wordAt b.h 0 = 0x6A09E667F3BCC908#64
          ^^^ BitVec.ofNat 64 (s.b2cfg.outlen.toNat + 256 * s.b2cfg.keylen.toNat + 2 ^ 16 + 2 ^ 24)
      ∧ wordAt b.h 1 = 0xBB67AE8584CAA73B#64 ∧ wordAt b.h 2 = 0x3C6EF372FE94F82B#64
      ∧ wordAt b.h 3 = 0xA54FF53A5F1D36F1#64
      ∧ (let salt := fun i => if s.b2cfg.saltlen.toNat = 16
          then BitVec.ofNat 64 (leint ((s.salt.toList.drop (8 * i)).take 8)) else 0#64
        wordAt b.h 4 = 0x510E527FADE682D1#64 ^^^ salt 0 ∧ wordAt b.h 5 = 0x9B05688C2B3E6C1F#64 ^^^ salt 1)
      ∧ (let pers := fun i => if s.b2cfg.perslen.toNat = 16
          then BitVec.ofNat 64 (leint ((s.pers.toList.drop (8 * i)).take 8)) else 0#64
        wordAt b.h 6 = 0x1F83D9ABFB41BD6B#64 ^^^ pers 0 ∧ wordAt b.h 7 = 0x5BE0CD19137E2179#64 ^^^ pers 1)

/-- B2_UPDATE completes while the engine accepts and B2LEN ≤ 128, and compresses at most once: if BUFLEN + n ≤ 128 it
only appends the n bytes, else the full buffer is compressed, T grows by 128, BUFLEN becomes BUFLEN + n - 128 and BUF keeps
its old bytes past it; n = 0 changes only the engine state; DIGEST and all else is unchanged (R119). -/
def Obligations.B2UpdateCompressesAtMostOnce : Prop :=
  ∀ s : State, s.b2len.toNat ≤ 128 → s.b2.engine = .initialized ∨ s.b2.engine = .updating →
    s.b2.buflen.toNat ≤ 128 →
    ∃ b : Blake2bState, exec .b2Update s = .next { s with b2 := b, err := .none, phase := .idle, done := true }
      ∧ b.engine = .updating ∧ b.f0 = s.b2.f0 ∧ b.f1 = s.b2.f1 ∧ b.nn = s.b2.nn
      ∧ (s.b2len.toNat = 0 → b = { s.b2 with engine := .updating })
      ∧ (s.b2.buflen.toNat + s.b2len.toNat ≤ 128 →
          b.t = s.b2.t ∧ b.h = s.b2.h ∧ b.buflen.toNat = s.b2.buflen.toNat + s.b2len.toNat
          ∧ ∀ k, k < 128 → byteAt b.buf k =
            if s.b2.buflen.toNat ≤ k ∧ k < s.b2.buflen.toNat + s.b2len.toNat
              then byteAt s.data (k - s.b2.buflen.toNat) else byteAt s.b2.buf k)
      ∧ (128 < s.b2.buflen.toNat + s.b2len.toNat →
          b.t = s.b2.t + 128#128 ∧ b.buflen.toNat = s.b2.buflen.toNat + s.b2len.toNat - 128
          ∧ ∃ full : Vector Byte 128, b.h = compress s.b2.h full b.t 0#64 0#64
            ∧ (∀ k, k < 128 → byteAt full k =
              if k < s.b2.buflen.toNat then byteAt s.b2.buf k else byteAt s.data (k - s.b2.buflen.toNat))
            ∧ ∀ k, k < 128 → byteAt b.buf k =
              if k < b.buflen.toNat then byteAt s.data (128 - s.b2.buflen.toNat + k) else byteAt full k)

/-- B2_FINAL completes while the engine accepts: T grows by BUFLEN, F0 is all ones, BUF is zeroed from BUFLEN on, H is the
compression of that block with the flags, DIGEST is the first NN bytes of H little-endian and zero after, BUFLEN, NN and
all else is unchanged (R120).  The compression, here and in B2_UPDATE, is for every input R114's twelve rounds of R113's G,
on integers mod 2^64, over R111's IV and R112's SIGMA as written out here. -/
def Obligations.B2FinalPadsCompressesAndOutputs : Prop :=
  (∀ (h : Vector Word64 8) (block : Vector Byte 128) (t : BitVec 128) (f0 f1 : Word64),
    (compress h block t f0 f1).toList.map (fun x => x.toNat) = compressLoop
      [0x6A09E667F3BCC908, 0xBB67AE8584CAA73B, 0x3C6EF372FE94F82B, 0xA54FF53A5F1D36F1,
        0x510E527FADE682D1, 0x9B05688C2B3E6C1F, 0x1F83D9ABFB41BD6B, 0x5BE0CD19137E2179]
      [[0, 1, 2, 3, 4, 5, 6, 7, 8, 9, 10, 11, 12, 13, 14, 15],
        [14, 10, 4, 8, 9, 15, 13, 6, 1, 12, 0, 2, 11, 7, 5, 3],
        [11, 8, 12, 0, 5, 2, 15, 13, 10, 14, 3, 6, 7, 1, 9, 4],
        [7, 9, 3, 1, 13, 12, 11, 14, 2, 6, 5, 10, 4, 0, 15, 8],
        [9, 0, 5, 7, 2, 4, 10, 15, 14, 1, 11, 12, 6, 8, 3, 13],
        [2, 12, 6, 10, 0, 11, 8, 3, 4, 13, 7, 5, 15, 14, 1, 9],
        [12, 5, 1, 15, 14, 13, 4, 10, 0, 7, 6, 3, 9, 2, 8, 11],
        [13, 11, 7, 14, 12, 1, 3, 9, 5, 0, 15, 4, 8, 6, 2, 10],
        [6, 15, 14, 9, 11, 3, 0, 8, 12, 2, 13, 7, 1, 4, 10, 5],
        [10, 2, 8, 4, 7, 6, 1, 5, 15, 11, 9, 14, 3, 12, 13, 0]]
      (h.toList.map fun x => x.toNat) block.toList t.toNat f0.toNat f1.toNat)
  ∧ ∀ s : State, s.b2.engine = .initialized ∨ s.b2.engine = .updating →
    ∃ (b : Blake2bState) (d : Vector Byte 64), exec .b2Final s = .next { s with
        b2 := b, digest := d, err := .none, phase := .idle, done := true }
      ∧ b.engine = .finalized ∧ b.t.toNat = (s.b2.t.toNat + s.b2.buflen.toNat) % 2 ^ 128
      ∧ b.f0 = 0xFFFFFFFFFFFFFFFF#64 ∧ b.f1 = s.b2.f1 ∧ b.buflen = s.b2.buflen ∧ b.nn = s.b2.nn
      ∧ (∀ k, k < 128 → byteAt b.buf k = if k < s.b2.buflen.toNat then byteAt s.b2.buf k else 0#8)
      ∧ b.h = compress s.b2.h b.buf b.t b.f0 b.f1
      ∧ ∀ k, k < 64 → byteAt d k =
        if k < s.b2.nn.toNat then BitVec.ofNat 8 ((wordAt b.h (k / 8)).toNat / 2 ^ (8 * (k % 8))) else 0#8

/-- The streaming equivalence: from one state, two ways to split one message into B2_UPDATEs of 0..128 bytes each, between
one B2_INIT and one B2_FINAL, leave the same DIGEST, with no error (R121 property 1).  `feed` is the host's load of
DATA and B2LEN followed by B2_UPDATE's complete step. -/
def Obligations.StreamingGivesOneDigest : Prop :=
  ∀ (s0 : State) (parts parts' : List (List Byte)), s0.b2cfg.legal = true →
    (∀ m ∈ parts, m.length ≤ 128) → (∀ m ∈ parts', m.length ≤ 128) → parts.flatten = parts'.flatten →
    let load := fun (s : State) (m : List Byte) =>
      { s with b2len := BitVec.ofNat 8 m.length, data := Vector.ofFn fun k => m.getD k.val 0#8 }
    let feed := fun (o : Outcome) (m : List Byte) => match o with
      | .next s => exec .b2Update (load s m)
      | _ => o
    let final := fun (o : Outcome) => match o with
      | .next s => exec .b2Final s
      | _ => o
    ∃ t t', final (parts.foldl feed (exec .b2Init s0)) = .next t
      ∧ final (parts'.foldl feed (exec .b2Init s0)) = .next t'
      ∧ t.err = .none ∧ t'.err = .none ∧ t.digest = t'.digest

/-! ## Key derivation and NOP (spec/44_keyderive.md) -/

/-- KD_DERIVE completes with SEEDLEN = 32 and writes PUBKEY and EXPANDED alone: EXPANDED is SEED then PUBKEY; the hash
registers, FR, SCALAR, OUT32, RESULT and DIGEST are untouched; and PUBKEY is a function of SEED alone: two states with the
same SEED, both with SEEDLEN = 32, get the same PUBKEY (R123, R124 properties 1 and 3). -/
def Obligations.KdDeriveDependsOnSeedAlone : Prop :=
  ∀ s s' : State, s.seedlen = 32#8 → s'.seedlen = 32#8 → s.seed = s'.seed →
    ∃ (pk : Vector Byte 32) (ex : Vector Byte 64),
      exec .kdDerive s = .next { s with
        pubkey := pk, expanded := ex, err := .none, phase := .idle, done := true }
      ∧ exec .kdDerive s' = .next { s' with
        pubkey := pk, expanded := ex, err := .none, phase := .idle, done := true }
      ∧ (∀ k, k < 32 → byteAt ex k = byteAt s.seed k) ∧ ∀ k, k < 32 → byteAt ex (32 + k) = byteAt pk k

/-- The composition: with SEEDLEN = 32, hashing the seed (B2_INIT at the default configuration, one B2_UPDATE of the 32
seed bytes, B2_FINAL), copying DIGEST[0..31] to SCALAR, and running SC_CLAMP, GE_SMULB f0 and GE_ENCODE f0 leaves in OUT32
the PUBKEY that KD_DERIVE writes (R124 property 2). -/
def Obligations.KdDeriveIsTheComposedSequence : Prop :=
  ∀ (s : State) (d : Vector Byte 128), s.seedlen = 32#8 → (∀ k, k < 32 → byteAt d k = byteAt s.seed k) →
    ∃ s1 s2 s3 s4 s5 s6 t : State,
      exec .b2Init { s with b2cfg := ⟨64#7, 0#7, 0#5, 0#5⟩ } = .next s1
      ∧ exec .b2Update { s1 with b2len := 32#8, data := d } = .next s2
      ∧ exec .b2Final s2 = .next s3
      ∧ exec .scClamp { s3 with scalar := Vector.ofFn fun k => byteAt s3.digest k.val } = .next s4
      ∧ exec (.geSmulb 0) s4 = .next s5
      ∧ exec (.geEncode 0) s5 = .next s6
      ∧ s1.err = .none ∧ s2.err = .none ∧ s3.err = .none ∧ s6.err = .none
      ∧ exec .kdDerive s = .next t ∧ t.pubkey = s6.out32

/-- R125: NOP completes in every state and changes nothing but STATUS, where ERR ends 0 and DONE ends 1. -/
def Obligations.NopOnlyClearsErrAndSetsDone : Prop :=
  ∀ s : State, exec .nop s = .next { s with err := .none, phase := .idle, done := true }
end

