-- ==== Sys2Proof/Laws/Bytes.lean ====
section
/-! SUPPORT. Laws/Bytes.lean: bytes of a vector, their little-endian integer, and LE_n. -/

namespace Sys2Proof.Machine

theorem byteAt_eq_getElem {n : Nat} (x : Vector Byte n) {k : Nat} (h : k < n) : byteAt x k = x[k] := by
  simp [byteAt, Vector.getD, h]

theorem byteAt_of_ge {n : Nat} (x : Vector Byte n) {k : Nat} (h : n ≤ k) : byteAt x k = 0#8 := by
  simp [byteAt, Vector.getD, Nat.not_lt.mpr h]

theorem byteAt_set_same {n : Nat} (x : Vector Byte n) {k : Nat} (b : Byte) (h : k < n) :
    byteAt (x.setIfInBounds k b) k = b := by
  rw [byteAt_eq_getElem _ h]; simp

theorem byteAt_set_other {n : Nat} (x : Vector Byte n) {k j : Nat} (b : Byte) (h : j ≠ k) :
    byteAt (x.setIfInBounds k b) j = byteAt x j := by
  by_cases hj : j < n
  · rw [byteAt_eq_getElem _ hj, byteAt_eq_getElem _ hj]
    simp [Ne.symm h]
  · rw [byteAt_of_ge _ (by omega), byteAt_of_ge _ (by omega)]

theorem byteAt_ofFn {n : Nat} (f : Fin n → Byte) {k : Nat} (h : k < n) :
    byteAt (Vector.ofFn f) k = f ⟨k, h⟩ := by
  rw [byteAt_eq_getElem _ h]; simp

@[simp] theorem byteAt_zeroBytes (n k : Nat) : byteAt (zeroBytes n) k = 0#8 := by
  by_cases h : k < n
  · rw [byteAt_eq_getElem _ h]; simp [zeroBytes]
  · exact byteAt_of_ge _ (by omega)

/-- Two byte vectors with the same bytes are the same. -/
theorem bytes_ext {n : Nat} {x y : Vector Byte n} (h : ∀ k, k < n → byteAt x k = byteAt y k) : x = y := by
  apply Vector.ext
  intro k hk
  have := h k hk
  rwa [byteAt_eq_getElem _ hk, byteAt_eq_getElem _ hk] at this

/-- `leint` of a list is below 256^length (R9). -/
theorem leint_lt (bs : List Byte) : leint bs < 256 ^ bs.length := by
  induction bs with
  | nil => simp [leint]
  | cons b bs ih =>
    have hb : b.toNat < 256 := b.isLt
    simp only [leint, List.length_cons, Nat.pow_succ]
    omega

/-- Byte k of LE_n(v) (R9). -/
theorem byteAt_leBytes {n : Nat} (v : Nat) {k : Nat} (h : k < n) :
    byteAt (leBytes n v) k = BitVec.ofNat 8 (v / 2 ^ (8 * k)) := by
  unfold leBytes; rw [byteAt_ofFn _ h]

/-- `leint` of the bytes v, v/256, v/256², … is v, for v < 256^n. -/
theorem leint_map_range (n : Nat) : ∀ v, v < 256 ^ n →
    leint ((List.range n).map fun k => BitVec.ofNat 8 (v / 2 ^ (8 * k))) = v := by
  induction n with
  | zero => intro v h; simp [leint] at *; omega
  | succ n ih =>
    intro v h
    rw [List.range_succ_eq_map, List.map_cons, List.map_map, leint]
    have hv : v / 256 < 256 ^ n := by
      rw [Nat.div_lt_iff_lt_mul (by omega)]; rw [Nat.pow_succ] at h; omega
    have := ih (v / 256) hv
    have hf : ((fun k => BitVec.ofNat 8 (v / 2 ^ (8 * k))) ∘ Nat.succ)
        = fun k => BitVec.ofNat 8 (v / 256 / 2 ^ (8 * k)) := by
      funext k
      simp only [Function.comp, Nat.succ_eq_add_one, Nat.mul_add, Nat.mul_one, Nat.pow_add,
        Nat.div_div_eq_div_mul]
      rw [Nat.mul_comm]
    rw [hf, this]
    simp
    omega

/-- LE_n and `leint` are inverse on the values of n bytes (R9). -/
theorem leint_leBytes (n v : Nat) (h : v < 256 ^ n) : leint (leBytes n v).toList = v := by
  have : (leBytes n v).toList = (List.range n).map fun k => BitVec.ofNat 8 (v / 2 ^ (8 * k)) := by
    apply List.ext_getElem
    · simp
    · intro k h1 h2
      simp [leBytes]
  rw [this]
  exact leint_map_range n v h

end Sys2Proof.Machine
end

