-- ==== Sys2Proof/Laws/Encoding.lean ====
section
/-! SUPPORT. Laws/Encoding.lean: the fields of a command word and the word of its fields are inverse (R56), and so are
each operand and its field (R58). -/

namespace Sys2Proof

theorem regOf_fieldOf (r : Fin 32) : regOf (fieldOf r) = r := by
  have := r.isLt
  apply Fin.ext
  simp only [regOf, fieldOf, BitVec.toNat_ofNat]
  omega

theorem fieldOf_regOf (b : BitVec 5) : fieldOf (regOf b) = b := by
  simp [regOf, fieldOf]

theorem digitOf_ofInt {dig : Int} (h : -16 ≤ dig) (h' : dig ≤ 15) : digitOf (BitVec.ofInt 5 dig) = dig := by
  simp only [digitOf, BitVec.toInt_ofInt, Int.bmod]
  omega

theorem ofInt_digitOf (b : BitVec 5) : BitVec.ofInt 5 (digitOf b) = b := by
  simp [digitOf]

/-- The number of a word is the sum of its fields at their places (R56). -/
theorem wordOf_toNat (f : Fields) : (wordOf f).toNat =
    f.rsv.toNat * 2 ^ 24 + f.c.toNat * 2 ^ 23 + f.rb.toNat * 2 ^ 18 + f.ra.toNat * 2 ^ 13 + f.rd.toNat * 2 ^ 8
      + f.opc.toNat := by
  have h1 := f.rsv.isLt; have h2 := f.c.isLt; have h3 := f.rb.isLt
  have h4 := f.ra.isLt; have h5 := f.rd.isLt; have h6 := f.opc.isLt
  unfold wordOf
  simp only [BitVec.toNat_append]
  rw [← Nat.shiftLeft_add_eq_or_of_lt h2, ← Nat.shiftLeft_add_eq_or_of_lt h3,
    ← Nat.shiftLeft_add_eq_or_of_lt h4, ← Nat.shiftLeft_add_eq_or_of_lt h5,
    ← Nat.shiftLeft_add_eq_or_of_lt h6]
  simp only [Nat.shiftLeft_eq]
  omega

/-- The fields of an assembled word are the fields it was assembled from (R56). -/
theorem fieldsOf_wordOf (f : Fields) : fieldsOf (wordOf f) = f := by
  have h1 := f.rsv.isLt; have h2 := f.c.isLt; have h3 := f.rb.isLt
  have h4 := f.ra.isLt; have h5 := f.rd.isLt; have h6 := f.opc.isLt
  have hw := wordOf_toNat f
  unfold fieldsOf
  cases f
  simp only [Fields.mk.injEq] at *
  refine ⟨?_, ?_, ?_, ?_, ?_, ?_⟩ <;>
    (apply BitVec.eq_of_toNat_eq
     simp only [BitVec.extractLsb'_toNat, Nat.shiftRight_eq_div_pow]
     rw [hw]
     omega)

/-- Every word is assembled from its fields (R56). -/
theorem wordOf_fieldsOf (w : Word) : wordOf (fieldsOf w) = w := by
  apply BitVec.eq_of_toNat_eq
  have h := w.isLt
  rw [wordOf_toNat]
  simp only [fieldsOf, BitVec.extractLsb'_toNat, Nat.shiftRight_eq_div_pow]
  omega

/-- A word with RSV = 0 decodes by its opcode (R61). -/
theorem decode_of_rsv_zero {w : Word} (h : (fieldsOf w).rsv = 0#8) : decode w = decodeOpcode (fieldsOf w) := by
  simp [decode, h]

end Sys2Proof
end

