-- ==== Sys2Proof/Laws/State.lean ====
section
/-! SUPPORT. Laws/State.lean: one lemma per field of `State` and per named update of it, so that no later proof unfolds a
record update. -/

namespace Sys2Proof.Machine

/-! ### `writeFr` changes FR -/

@[simp] theorem State.writeFr_fr (s : State) (n : Nat) (f : FieldElement) : (s.writeFr n f).fr = s.fr.setIfInBounds n f := rfl

@[simp] theorem State.writeFr_key (s : State) (n : Nat) (f : FieldElement) : (s.writeFr n f).key = s.key := rfl

@[simp] theorem State.writeFr_salt (s : State) (n : Nat) (f : FieldElement) : (s.writeFr n f).salt = s.salt := rfl

@[simp] theorem State.writeFr_pers (s : State) (n : Nat) (f : FieldElement) : (s.writeFr n f).pers = s.pers := rfl

@[simp] theorem State.writeFr_data (s : State) (n : Nat) (f : FieldElement) : (s.writeFr n f).data = s.data := rfl

@[simp] theorem State.writeFr_digest (s : State) (n : Nat) (f : FieldElement) : (s.writeFr n f).digest = s.digest := rfl

@[simp] theorem State.writeFr_scalar (s : State) (n : Nat) (f : FieldElement) : (s.writeFr n f).scalar = s.scalar := rfl

@[simp] theorem State.writeFr_seed (s : State) (n : Nat) (f : FieldElement) : (s.writeFr n f).seed = s.seed := rfl

@[simp] theorem State.writeFr_pubkey (s : State) (n : Nat) (f : FieldElement) : (s.writeFr n f).pubkey = s.pubkey := rfl

@[simp] theorem State.writeFr_expanded (s : State) (n : Nat) (f : FieldElement) : (s.writeFr n f).expanded = s.expanded := rfl

@[simp] theorem State.writeFr_out32 (s : State) (n : Nat) (f : FieldElement) : (s.writeFr n f).out32 = s.out32 := rfl

@[simp] theorem State.writeFr_b2 (s : State) (n : Nat) (f : FieldElement) : (s.writeFr n f).b2 = s.b2 := rfl

@[simp] theorem State.writeFr_ie (s : State) (n : Nat) (f : FieldElement) : (s.writeFr n f).ie = s.ie := rfl

@[simp] theorem State.writeFr_done (s : State) (n : Nat) (f : FieldElement) : (s.writeFr n f).done = s.done := rfl

@[simp] theorem State.writeFr_ovr (s : State) (n : Nat) (f : FieldElement) : (s.writeFr n f).ovr = s.ovr := rfl

@[simp] theorem State.writeFr_err (s : State) (n : Nat) (f : FieldElement) : (s.writeFr n f).err = s.err := rfl

@[simp] theorem State.writeFr_inflight (s : State) (n : Nat) (f : FieldElement) : (s.writeFr n f).inflight = s.inflight := rfl

@[simp] theorem State.writeFr_neg (s : State) (n : Nat) (f : FieldElement) : (s.writeFr n f).neg = s.neg := rfl

@[simp] theorem State.writeFr_b2cfg (s : State) (n : Nat) (f : FieldElement) : (s.writeFr n f).b2cfg = s.b2cfg := rfl

@[simp] theorem State.writeFr_b2len (s : State) (n : Nat) (f : FieldElement) : (s.writeFr n f).b2len = s.b2len := rfl

@[simp] theorem State.writeFr_seedlen (s : State) (n : Nat) (f : FieldElement) : (s.writeFr n f).seedlen = s.seedlen := rfl

@[simp] theorem State.writeFr_phase (s : State) (n : Nat) (f : FieldElement) : (s.writeFr n f).phase = s.phase := rfl

@[simp] theorem State.writeFr_env (s : State) (n : Nat) (f : FieldElement) : (s.writeFr n f).env = s.env := rfl

/-! ### `writeGroup3` changes FR -/

@[simp] theorem State.writeGroup3_key (s : State) (r : Reg) (a b c : FieldElement) : (s.writeGroup3 r a b c).key = s.key := rfl

@[simp] theorem State.writeGroup3_salt (s : State) (r : Reg) (a b c : FieldElement) : (s.writeGroup3 r a b c).salt = s.salt := rfl

@[simp] theorem State.writeGroup3_pers (s : State) (r : Reg) (a b c : FieldElement) : (s.writeGroup3 r a b c).pers = s.pers := rfl

@[simp] theorem State.writeGroup3_data (s : State) (r : Reg) (a b c : FieldElement) : (s.writeGroup3 r a b c).data = s.data := rfl

@[simp] theorem State.writeGroup3_digest (s : State) (r : Reg) (a b c : FieldElement) : (s.writeGroup3 r a b c).digest = s.digest := rfl

@[simp] theorem State.writeGroup3_scalar (s : State) (r : Reg) (a b c : FieldElement) : (s.writeGroup3 r a b c).scalar = s.scalar := rfl

@[simp] theorem State.writeGroup3_seed (s : State) (r : Reg) (a b c : FieldElement) : (s.writeGroup3 r a b c).seed = s.seed := rfl

@[simp] theorem State.writeGroup3_pubkey (s : State) (r : Reg) (a b c : FieldElement) : (s.writeGroup3 r a b c).pubkey = s.pubkey := rfl

@[simp] theorem State.writeGroup3_expanded (s : State) (r : Reg) (a b c : FieldElement) : (s.writeGroup3 r a b c).expanded = s.expanded := rfl

@[simp] theorem State.writeGroup3_out32 (s : State) (r : Reg) (a b c : FieldElement) : (s.writeGroup3 r a b c).out32 = s.out32 := rfl

@[simp] theorem State.writeGroup3_b2 (s : State) (r : Reg) (a b c : FieldElement) : (s.writeGroup3 r a b c).b2 = s.b2 := rfl

@[simp] theorem State.writeGroup3_ie (s : State) (r : Reg) (a b c : FieldElement) : (s.writeGroup3 r a b c).ie = s.ie := rfl

@[simp] theorem State.writeGroup3_done (s : State) (r : Reg) (a b c : FieldElement) : (s.writeGroup3 r a b c).done = s.done := rfl

@[simp] theorem State.writeGroup3_ovr (s : State) (r : Reg) (a b c : FieldElement) : (s.writeGroup3 r a b c).ovr = s.ovr := rfl

@[simp] theorem State.writeGroup3_err (s : State) (r : Reg) (a b c : FieldElement) : (s.writeGroup3 r a b c).err = s.err := rfl

@[simp] theorem State.writeGroup3_inflight (s : State) (r : Reg) (a b c : FieldElement) : (s.writeGroup3 r a b c).inflight = s.inflight := rfl

@[simp] theorem State.writeGroup3_neg (s : State) (r : Reg) (a b c : FieldElement) : (s.writeGroup3 r a b c).neg = s.neg := rfl

@[simp] theorem State.writeGroup3_b2cfg (s : State) (r : Reg) (a b c : FieldElement) : (s.writeGroup3 r a b c).b2cfg = s.b2cfg := rfl

@[simp] theorem State.writeGroup3_b2len (s : State) (r : Reg) (a b c : FieldElement) : (s.writeGroup3 r a b c).b2len = s.b2len := rfl

@[simp] theorem State.writeGroup3_seedlen (s : State) (r : Reg) (a b c : FieldElement) : (s.writeGroup3 r a b c).seedlen = s.seedlen := rfl

@[simp] theorem State.writeGroup3_phase (s : State) (r : Reg) (a b c : FieldElement) : (s.writeGroup3 r a b c).phase = s.phase := rfl

@[simp] theorem State.writeGroup3_env (s : State) (r : Reg) (a b c : FieldElement) : (s.writeGroup3 r a b c).env = s.env := rfl

/-! ### `writeGroup4` changes FR -/

@[simp] theorem State.writeGroup4_key (s : State) (r : Reg) (a b c d : FieldElement) : (s.writeGroup4 r a b c d).key = s.key := rfl

@[simp] theorem State.writeGroup4_salt (s : State) (r : Reg) (a b c d : FieldElement) : (s.writeGroup4 r a b c d).salt = s.salt := rfl

@[simp] theorem State.writeGroup4_pers (s : State) (r : Reg) (a b c d : FieldElement) : (s.writeGroup4 r a b c d).pers = s.pers := rfl

@[simp] theorem State.writeGroup4_data (s : State) (r : Reg) (a b c d : FieldElement) : (s.writeGroup4 r a b c d).data = s.data := rfl

@[simp] theorem State.writeGroup4_digest (s : State) (r : Reg) (a b c d : FieldElement) : (s.writeGroup4 r a b c d).digest = s.digest := rfl

@[simp] theorem State.writeGroup4_scalar (s : State) (r : Reg) (a b c d : FieldElement) : (s.writeGroup4 r a b c d).scalar = s.scalar := rfl

@[simp] theorem State.writeGroup4_seed (s : State) (r : Reg) (a b c d : FieldElement) : (s.writeGroup4 r a b c d).seed = s.seed := rfl

@[simp] theorem State.writeGroup4_pubkey (s : State) (r : Reg) (a b c d : FieldElement) : (s.writeGroup4 r a b c d).pubkey = s.pubkey := rfl

@[simp] theorem State.writeGroup4_expanded (s : State) (r : Reg) (a b c d : FieldElement) : (s.writeGroup4 r a b c d).expanded = s.expanded := rfl

@[simp] theorem State.writeGroup4_out32 (s : State) (r : Reg) (a b c d : FieldElement) : (s.writeGroup4 r a b c d).out32 = s.out32 := rfl

@[simp] theorem State.writeGroup4_b2 (s : State) (r : Reg) (a b c d : FieldElement) : (s.writeGroup4 r a b c d).b2 = s.b2 := rfl

@[simp] theorem State.writeGroup4_ie (s : State) (r : Reg) (a b c d : FieldElement) : (s.writeGroup4 r a b c d).ie = s.ie := rfl

@[simp] theorem State.writeGroup4_done (s : State) (r : Reg) (a b c d : FieldElement) : (s.writeGroup4 r a b c d).done = s.done := rfl

@[simp] theorem State.writeGroup4_ovr (s : State) (r : Reg) (a b c d : FieldElement) : (s.writeGroup4 r a b c d).ovr = s.ovr := rfl

@[simp] theorem State.writeGroup4_err (s : State) (r : Reg) (a b c d : FieldElement) : (s.writeGroup4 r a b c d).err = s.err := rfl

@[simp] theorem State.writeGroup4_inflight (s : State) (r : Reg) (a b c d : FieldElement) : (s.writeGroup4 r a b c d).inflight = s.inflight := rfl

@[simp] theorem State.writeGroup4_neg (s : State) (r : Reg) (a b c d : FieldElement) : (s.writeGroup4 r a b c d).neg = s.neg := rfl

@[simp] theorem State.writeGroup4_b2cfg (s : State) (r : Reg) (a b c d : FieldElement) : (s.writeGroup4 r a b c d).b2cfg = s.b2cfg := rfl

@[simp] theorem State.writeGroup4_b2len (s : State) (r : Reg) (a b c d : FieldElement) : (s.writeGroup4 r a b c d).b2len = s.b2len := rfl

@[simp] theorem State.writeGroup4_seedlen (s : State) (r : Reg) (a b c d : FieldElement) : (s.writeGroup4 r a b c d).seedlen = s.seedlen := rfl

@[simp] theorem State.writeGroup4_phase (s : State) (r : Reg) (a b c d : FieldElement) : (s.writeGroup4 r a b c d).phase = s.phase := rfl

@[simp] theorem State.writeGroup4_env (s : State) (r : Reg) (a b c d : FieldElement) : (s.writeGroup4 r a b c d).env = s.env := rfl

/-! ### `accept` (R34) -/

@[simp] theorem State.accept_fr (s : State) (v : Word) : (s.accept v).fr = s.fr := rfl

@[simp] theorem State.accept_key (s : State) (v : Word) : (s.accept v).key = s.key := rfl

@[simp] theorem State.accept_salt (s : State) (v : Word) : (s.accept v).salt = s.salt := rfl

@[simp] theorem State.accept_pers (s : State) (v : Word) : (s.accept v).pers = s.pers := rfl

@[simp] theorem State.accept_data (s : State) (v : Word) : (s.accept v).data = s.data := rfl

@[simp] theorem State.accept_digest (s : State) (v : Word) : (s.accept v).digest = s.digest := rfl

@[simp] theorem State.accept_scalar (s : State) (v : Word) : (s.accept v).scalar = s.scalar := rfl

@[simp] theorem State.accept_seed (s : State) (v : Word) : (s.accept v).seed = s.seed := rfl

@[simp] theorem State.accept_pubkey (s : State) (v : Word) : (s.accept v).pubkey = s.pubkey := rfl

@[simp] theorem State.accept_expanded (s : State) (v : Word) : (s.accept v).expanded = s.expanded := rfl

@[simp] theorem State.accept_out32 (s : State) (v : Word) : (s.accept v).out32 = s.out32 := rfl

@[simp] theorem State.accept_b2 (s : State) (v : Word) : (s.accept v).b2 = s.b2 := rfl

@[simp] theorem State.accept_ie (s : State) (v : Word) : (s.accept v).ie = s.ie := rfl

@[simp] theorem State.accept_done (s : State) (v : Word) : (s.accept v).done = false := rfl

@[simp] theorem State.accept_ovr (s : State) (v : Word) : (s.accept v).ovr = s.ovr := rfl

@[simp] theorem State.accept_err (s : State) (v : Word) : (s.accept v).err = .none := rfl

@[simp] theorem State.accept_inflight (s : State) (v : Word) : (s.accept v).inflight = v := rfl

@[simp] theorem State.accept_neg (s : State) (v : Word) : (s.accept v).neg = s.neg := rfl

@[simp] theorem State.accept_b2cfg (s : State) (v : Word) : (s.accept v).b2cfg = s.b2cfg := rfl

@[simp] theorem State.accept_b2len (s : State) (v : Word) : (s.accept v).b2len = s.b2len := rfl

@[simp] theorem State.accept_seedlen (s : State) (v : Word) : (s.accept v).seedlen = s.seedlen := rfl

@[simp] theorem State.accept_phase (s : State) (v : Word) : (s.accept v).phase = .busy := rfl

@[simp] theorem State.accept_env (s : State) (v : Word) : (s.accept v).env = s.env := rfl

/-! ### `complete` (R34) -/

@[simp] theorem State.complete_fr (s : State) (code : ErrorCode) : (s.complete code).fr = s.fr := rfl

@[simp] theorem State.complete_key (s : State) (code : ErrorCode) : (s.complete code).key = s.key := rfl

@[simp] theorem State.complete_salt (s : State) (code : ErrorCode) : (s.complete code).salt = s.salt := rfl

@[simp] theorem State.complete_pers (s : State) (code : ErrorCode) : (s.complete code).pers = s.pers := rfl

@[simp] theorem State.complete_data (s : State) (code : ErrorCode) : (s.complete code).data = s.data := rfl

@[simp] theorem State.complete_digest (s : State) (code : ErrorCode) : (s.complete code).digest = s.digest := rfl

@[simp] theorem State.complete_scalar (s : State) (code : ErrorCode) : (s.complete code).scalar = s.scalar := rfl

@[simp] theorem State.complete_seed (s : State) (code : ErrorCode) : (s.complete code).seed = s.seed := rfl

@[simp] theorem State.complete_pubkey (s : State) (code : ErrorCode) : (s.complete code).pubkey = s.pubkey := rfl

@[simp] theorem State.complete_expanded (s : State) (code : ErrorCode) : (s.complete code).expanded = s.expanded := rfl

@[simp] theorem State.complete_out32 (s : State) (code : ErrorCode) : (s.complete code).out32 = s.out32 := rfl

@[simp] theorem State.complete_b2 (s : State) (code : ErrorCode) : (s.complete code).b2 = s.b2 := rfl

@[simp] theorem State.complete_ie (s : State) (code : ErrorCode) : (s.complete code).ie = s.ie := rfl

@[simp] theorem State.complete_done (s : State) (code : ErrorCode) : (s.complete code).done = true := rfl

@[simp] theorem State.complete_ovr (s : State) (code : ErrorCode) : (s.complete code).ovr = s.ovr := rfl

@[simp] theorem State.complete_err (s : State) (code : ErrorCode) : (s.complete code).err = code := rfl

@[simp] theorem State.complete_inflight (s : State) (code : ErrorCode) : (s.complete code).inflight = s.inflight := rfl

@[simp] theorem State.complete_neg (s : State) (code : ErrorCode) : (s.complete code).neg = s.neg := rfl

@[simp] theorem State.complete_b2cfg (s : State) (code : ErrorCode) : (s.complete code).b2cfg = s.b2cfg := rfl

@[simp] theorem State.complete_b2len (s : State) (code : ErrorCode) : (s.complete code).b2len = s.b2len := rfl

@[simp] theorem State.complete_seedlen (s : State) (code : ErrorCode) : (s.complete code).seedlen = s.seedlen := rfl

@[simp] theorem State.complete_phase (s : State) (code : ErrorCode) : (s.complete code).phase = .idle := rfl

@[simp] theorem State.complete_env (s : State) (code : ErrorCode) : (s.complete code).env = s.env := rfl

/-! ### `writeStatus` (R26) -/

@[simp] theorem State.writeStatus_fr (s : State) (w : Word) : (s.writeStatus w).fr = s.fr := rfl

@[simp] theorem State.writeStatus_key (s : State) (w : Word) : (s.writeStatus w).key = s.key := rfl

@[simp] theorem State.writeStatus_salt (s : State) (w : Word) : (s.writeStatus w).salt = s.salt := rfl

@[simp] theorem State.writeStatus_pers (s : State) (w : Word) : (s.writeStatus w).pers = s.pers := rfl

@[simp] theorem State.writeStatus_data (s : State) (w : Word) : (s.writeStatus w).data = s.data := rfl

@[simp] theorem State.writeStatus_digest (s : State) (w : Word) : (s.writeStatus w).digest = s.digest := rfl

@[simp] theorem State.writeStatus_scalar (s : State) (w : Word) : (s.writeStatus w).scalar = s.scalar := rfl

@[simp] theorem State.writeStatus_seed (s : State) (w : Word) : (s.writeStatus w).seed = s.seed := rfl

@[simp] theorem State.writeStatus_pubkey (s : State) (w : Word) : (s.writeStatus w).pubkey = s.pubkey := rfl

@[simp] theorem State.writeStatus_expanded (s : State) (w : Word) : (s.writeStatus w).expanded = s.expanded := rfl

@[simp] theorem State.writeStatus_out32 (s : State) (w : Word) : (s.writeStatus w).out32 = s.out32 := rfl

@[simp] theorem State.writeStatus_b2 (s : State) (w : Word) : (s.writeStatus w).b2 = s.b2 := rfl

@[simp] theorem State.writeStatus_ie (s : State) (w : Word) : (s.writeStatus w).ie = s.ie := rfl

@[simp] theorem State.writeStatus_done (s : State) (w : Word) : (s.writeStatus w).done = (s.done && !w.getLsbD 1) := rfl

@[simp] theorem State.writeStatus_ovr (s : State) (w : Word) : (s.writeStatus w).ovr = (s.ovr && !w.getLsbD 2) := rfl

@[simp] theorem State.writeStatus_err (s : State) (w : Word) : (s.writeStatus w).err = s.err := rfl

@[simp] theorem State.writeStatus_inflight (s : State) (w : Word) : (s.writeStatus w).inflight = s.inflight := rfl

@[simp] theorem State.writeStatus_neg (s : State) (w : Word) : (s.writeStatus w).neg = s.neg := rfl

@[simp] theorem State.writeStatus_b2cfg (s : State) (w : Word) : (s.writeStatus w).b2cfg = s.b2cfg := rfl

@[simp] theorem State.writeStatus_b2len (s : State) (w : Word) : (s.writeStatus w).b2len = s.b2len := rfl

@[simp] theorem State.writeStatus_seedlen (s : State) (w : Word) : (s.writeStatus w).seedlen = s.seedlen := rfl

@[simp] theorem State.writeStatus_phase (s : State) (w : Word) : (s.writeStatus w).phase = s.phase := rfl

@[simp] theorem State.writeStatus_env (s : State) (w : Word) : (s.writeStatus w).env = s.env := rfl

/-! ### `returnData` changes the host side only (R48) -/

@[simp] theorem State.returnData_fr (s : State) (v : Word) : (s.returnData v).fr = s.fr := rfl

@[simp] theorem State.returnData_key (s : State) (v : Word) : (s.returnData v).key = s.key := rfl

@[simp] theorem State.returnData_salt (s : State) (v : Word) : (s.returnData v).salt = s.salt := rfl

@[simp] theorem State.returnData_pers (s : State) (v : Word) : (s.returnData v).pers = s.pers := rfl

@[simp] theorem State.returnData_data (s : State) (v : Word) : (s.returnData v).data = s.data := rfl

@[simp] theorem State.returnData_digest (s : State) (v : Word) : (s.returnData v).digest = s.digest := rfl

@[simp] theorem State.returnData_scalar (s : State) (v : Word) : (s.returnData v).scalar = s.scalar := rfl

@[simp] theorem State.returnData_seed (s : State) (v : Word) : (s.returnData v).seed = s.seed := rfl

@[simp] theorem State.returnData_pubkey (s : State) (v : Word) : (s.returnData v).pubkey = s.pubkey := rfl

@[simp] theorem State.returnData_expanded (s : State) (v : Word) : (s.returnData v).expanded = s.expanded := rfl

@[simp] theorem State.returnData_out32 (s : State) (v : Word) : (s.returnData v).out32 = s.out32 := rfl

@[simp] theorem State.returnData_b2 (s : State) (v : Word) : (s.returnData v).b2 = s.b2 := rfl

@[simp] theorem State.returnData_ie (s : State) (v : Word) : (s.returnData v).ie = s.ie := rfl

@[simp] theorem State.returnData_done (s : State) (v : Word) : (s.returnData v).done = s.done := rfl

@[simp] theorem State.returnData_ovr (s : State) (v : Word) : (s.returnData v).ovr = s.ovr := rfl

@[simp] theorem State.returnData_err (s : State) (v : Word) : (s.returnData v).err = s.err := rfl

@[simp] theorem State.returnData_inflight (s : State) (v : Word) : (s.returnData v).inflight = s.inflight := rfl

@[simp] theorem State.returnData_neg (s : State) (v : Word) : (s.returnData v).neg = s.neg := rfl

@[simp] theorem State.returnData_b2cfg (s : State) (v : Word) : (s.returnData v).b2cfg = s.b2cfg := rfl

@[simp] theorem State.returnData_b2len (s : State) (v : Word) : (s.returnData v).b2len = s.b2len := rfl

@[simp] theorem State.returnData_seedlen (s : State) (v : Word) : (s.returnData v).seedlen = s.seedlen := rfl

@[simp] theorem State.returnData_phase (s : State) (v : Word) : (s.returnData v).phase = s.phase := rfl

@[simp] theorem State.returnData_env (s : State) (v : Word) : (s.returnData v).env = { s.env with rdata := v } := rfl

/-! ### `returnAny` changes the host side only (R48) -/

@[simp] theorem State.returnAny_fr (s : State) : (s.returnAny).fr = s.fr := rfl

@[simp] theorem State.returnAny_key (s : State) : (s.returnAny).key = s.key := rfl

@[simp] theorem State.returnAny_salt (s : State) : (s.returnAny).salt = s.salt := rfl

@[simp] theorem State.returnAny_pers (s : State) : (s.returnAny).pers = s.pers := rfl

@[simp] theorem State.returnAny_data (s : State) : (s.returnAny).data = s.data := rfl

@[simp] theorem State.returnAny_digest (s : State) : (s.returnAny).digest = s.digest := rfl

@[simp] theorem State.returnAny_scalar (s : State) : (s.returnAny).scalar = s.scalar := rfl

@[simp] theorem State.returnAny_seed (s : State) : (s.returnAny).seed = s.seed := rfl

@[simp] theorem State.returnAny_pubkey (s : State) : (s.returnAny).pubkey = s.pubkey := rfl

@[simp] theorem State.returnAny_expanded (s : State) : (s.returnAny).expanded = s.expanded := rfl

@[simp] theorem State.returnAny_out32 (s : State) : (s.returnAny).out32 = s.out32 := rfl

@[simp] theorem State.returnAny_b2 (s : State) : (s.returnAny).b2 = s.b2 := rfl

@[simp] theorem State.returnAny_ie (s : State) : (s.returnAny).ie = s.ie := rfl

@[simp] theorem State.returnAny_done (s : State) : (s.returnAny).done = s.done := rfl

@[simp] theorem State.returnAny_ovr (s : State) : (s.returnAny).ovr = s.ovr := rfl

@[simp] theorem State.returnAny_err (s : State) : (s.returnAny).err = s.err := rfl

@[simp] theorem State.returnAny_inflight (s : State) : (s.returnAny).inflight = s.inflight := rfl

@[simp] theorem State.returnAny_neg (s : State) : (s.returnAny).neg = s.neg := rfl

@[simp] theorem State.returnAny_b2cfg (s : State) : (s.returnAny).b2cfg = s.b2cfg := rfl

@[simp] theorem State.returnAny_b2len (s : State) : (s.returnAny).b2len = s.b2len := rfl

@[simp] theorem State.returnAny_seedlen (s : State) : (s.returnAny).seedlen = s.seedlen := rfl

@[simp] theorem State.returnAny_phase (s : State) : (s.returnAny).phase = s.phase := rfl

@[simp] theorem State.returnAny_env (s : State) : (s.returnAny).env = { s.env with rdata := Config.anyRead s.env.draws, draws := s.env.draws + 1 } := rfl

/-! ### Reset keeps the host side and nothing else (R36) -/

@[simp] theorem State.resetBlock_fr (s : State) : s.resetBlock.fr = State.reset.fr := rfl

@[simp] theorem State.resetBlock_key (s : State) : s.resetBlock.key = State.reset.key := rfl

@[simp] theorem State.resetBlock_salt (s : State) : s.resetBlock.salt = State.reset.salt := rfl

@[simp] theorem State.resetBlock_pers (s : State) : s.resetBlock.pers = State.reset.pers := rfl

@[simp] theorem State.resetBlock_data (s : State) : s.resetBlock.data = State.reset.data := rfl

@[simp] theorem State.resetBlock_digest (s : State) : s.resetBlock.digest = State.reset.digest := rfl

@[simp] theorem State.resetBlock_scalar (s : State) : s.resetBlock.scalar = State.reset.scalar := rfl

@[simp] theorem State.resetBlock_seed (s : State) : s.resetBlock.seed = State.reset.seed := rfl

@[simp] theorem State.resetBlock_pubkey (s : State) : s.resetBlock.pubkey = State.reset.pubkey := rfl

@[simp] theorem State.resetBlock_expanded (s : State) : s.resetBlock.expanded = State.reset.expanded := rfl

@[simp] theorem State.resetBlock_out32 (s : State) : s.resetBlock.out32 = State.reset.out32 := rfl

@[simp] theorem State.resetBlock_b2 (s : State) : s.resetBlock.b2 = State.reset.b2 := rfl

@[simp] theorem State.resetBlock_ie (s : State) : s.resetBlock.ie = State.reset.ie := rfl

@[simp] theorem State.resetBlock_done (s : State) : s.resetBlock.done = State.reset.done := rfl

@[simp] theorem State.resetBlock_ovr (s : State) : s.resetBlock.ovr = State.reset.ovr := rfl

@[simp] theorem State.resetBlock_err (s : State) : s.resetBlock.err = State.reset.err := rfl

@[simp] theorem State.resetBlock_inflight (s : State) : s.resetBlock.inflight = State.reset.inflight := rfl

@[simp] theorem State.resetBlock_neg (s : State) : s.resetBlock.neg = State.reset.neg := rfl

@[simp] theorem State.resetBlock_b2cfg (s : State) : s.resetBlock.b2cfg = State.reset.b2cfg := rfl

@[simp] theorem State.resetBlock_b2len (s : State) : s.resetBlock.b2len = State.reset.b2len := rfl

@[simp] theorem State.resetBlock_seedlen (s : State) : s.resetBlock.seedlen = State.reset.seedlen := rfl

@[simp] theorem State.resetBlock_phase (s : State) : s.resetBlock.phase = State.reset.phase := rfl

@[simp] theorem State.resetBlock_env (s : State) : s.resetBlock.env = s.env := rfl

end Sys2Proof.Machine
end

