-- ==== Sys2Proof/Laws/Ops.lean ====
section
/-! SUPPORT. Laws/Ops.lean: one spec lemma per shared operation: what a command's end leaves, whose turn it is, what a
step does, and that every command ends in `finish`. -/

namespace Sys2Proof.Machine

/-! ### The end of a command -/

@[simp] theorem State.conclude_ok (s t : State) : s.conclude (.ok t) = t.complete .none := rfl

@[simp] theorem State.conclude_error (s : State) (c : ErrorCode) :
    s.conclude (.error c) = s.complete c := rfl

theorem finish_eq (s : State) (r : Except ErrorCode State) : finish s r = .next (s.conclude r) := rfl

theorem finish_next_iff (s t : State) (r : Except ErrorCode State) :
    finish s r = .next t ↔ t = s.conclude r := by
  rw [finish_eq]
  exact ⟨fun h => by injection h with h; exact h.symm, fun h => by rw [h]⟩

/-- A command guarded by a condition either runs whole or fails whole. -/
theorem conclude_ite (s t : State) (c : ErrorCode) (b : Bool) :
    s.conclude (if b then .ok t else .error c) = if b then t.complete .none else s.complete c := by
  cases b <;> rfl

/-- What every command's meaning is: its rule's result, concluded. -/
theorem exec_finishes (i : Instr) (s : State) : ∃ r, exec i s = finish s r := by
  cases i <;> exact ⟨_, rfl⟩

/-! ### Turns and steps -/

/-- Everything a turn can be. -/
theorem nextTurn_cases (s : State) :
    (∃ a ms, s.env.moves = .host a :: ms ∧ s.nextTurn = .host a { s with env := { s.env with moves := ms } })
    ∨ (∃ ms, s.env.moves = .sequencer :: ms
        ∧ s.nextTurn = State.sequencerTurn { s with env := { s.env with moves := ms } })
    ∨ (s.env.moves = [] ∧ s.nextTurn = s.sequencerTurn) := by
  unfold State.nextTurn
  split
  · next h => exact .inr (.inr ⟨h, rfl⟩)
  · next ms h => exact .inr (.inl ⟨ms, h, rfl⟩)
  · next a ms h => exact .inl ⟨a, ms, h, rfl⟩

theorem sequencerTurn_command (s : State) (hb : s.phase = .busy) (hr : s.env.resetPin = false) :
    s.sequencerTurn = .command s.inflight s := by
  simp [State.sequencerTurn, hb, hr]

theorem sequencerTurn_idle (s : State) (h : s.phase = .idle) : s.sequencerTurn = .wait s := by
  simp [State.sequencerTurn, h]

theorem sequencerTurn_held (s : State) (h : s.env.resetPin = true) : s.sequencerTurn = .wait s := by
  simp [State.sequencerTurn, h]

/-- The complete step of a command word (R34, R61): the command it decodes to, or ILLEGAL_COMMAND. -/
theorem step_of_command {s t : State} {w : Word} (h : s.nextTurn = .command w t) :
    step s = match decode w with
      | .ok i => exec i t
      | .error _ => completeIllegal t := by
  cases hd : decode w <;> simp [step, h, hd]

theorem step_of_host {s t : State} {a : HostAction} (h : s.nextTurn = .host a t) :
    step s = .next (t.hostAct a) := by
  unfold step; rw [h]

theorem step_of_wait {s t : State} (h : s.nextTurn = .wait t) : step s = .next t := by
  unfold step; rw [h]

/-! ### Bus accesses -/

/-- Everything a read can do: the host's data changes, the block does not (R48). -/
theorem busRead_cases (s : State) (addr : Offset) :
    s.busRead addr = s.returnAny ∨ s.busRead addr = s.returnData (s.readLoc (locOf addr)) := by
  unfold State.busRead
  split
  · exact .inl rfl
  · exact .inr rfl

/-- Everything a write can do (R139, R143). -/
theorem busWrite_cases (s : State) (addr : Offset) (w : Word) :
    (s.env.resetPin = true ∧ s.busWrite addr w = s)
    ∨ (s.env.resetPin = false ∧ s.busy = true ∧ (locOf addr).writableWhileBusy = false
        ∧ s.busWrite addr w = { s with ovr := true })
    ∨ (s.env.resetPin = false ∧ (s.busy = false ∨ (locOf addr).writableWhileBusy = true)
        ∧ s.busWrite addr w = s.writeLoc (locOf addr) w) := by
  unfold State.busWrite
  cases hr : s.env.resetPin <;> cases hb : s.busy <;> cases hw : (locOf addr).writableWhileBusy <;> simp

@[simp] theorem busy_iff (s : State) : s.busy = true ↔ s.phase = .busy := by simp [State.busy]

@[simp] theorem busy_false_iff (s : State) : s.busy = false ↔ s.phase = .idle := by
  unfold State.busy; cases s.phase <;> simp

end Sys2Proof.Machine
end

