-- ==== Sys2Proof/Laws/PerInstr.lean ====
section
/-! SUPPORT. Laws/PerInstr.lean: facts about commands as syntax, one lemma per constructor of `Instr`. -/

namespace Sys2Proof.Laws.EncodeFields

/-- The assembled word of a command has RSV = 0 and the command's opcode (R56, R59, R62). -/
def Statement (i : Instr) : Prop := (fieldsOf (encode i)).rsv = 0#8 ∧ (fieldsOf (encode i)).opc = opcodeOf i

/-- The fields of the assembled word are the ones it was assembled from. -/
theorem fields_encode (i : Instr) : fieldsOf (encode i) = fieldsOfInstr i := fieldsOf_wordOf _

theorem feZero (rd : Reg) : Statement (.feZero rd) := by
  unfold Statement; rw [fields_encode]; exact ⟨rfl, rfl⟩

theorem feOne (rd : Reg) : Statement (.feOne rd) := by
  unfold Statement; rw [fields_encode]; exact ⟨rfl, rfl⟩

theorem feCopy (rd ra : Reg) : Statement (.feCopy rd ra) := by
  unfold Statement; rw [fields_encode]; exact ⟨rfl, rfl⟩

theorem feAdd (rd ra rb : Reg) : Statement (.feAdd rd ra rb) := by
  unfold Statement; rw [fields_encode]; exact ⟨rfl, rfl⟩

theorem feSub (rd ra rb : Reg) : Statement (.feSub rd ra rb) := by
  unfold Statement; rw [fields_encode]; exact ⟨rfl, rfl⟩

theorem feNeg (rd ra : Reg) : Statement (.feNeg rd ra) := by
  unfold Statement; rw [fields_encode]; exact ⟨rfl, rfl⟩

theorem feMul (rd ra rb : Reg) : Statement (.feMul rd ra rb) := by
  unfold Statement; rw [fields_encode]; exact ⟨rfl, rfl⟩

theorem feSq (rd ra : Reg) : Statement (.feSq rd ra) := by
  unfold Statement; rw [fields_encode]; exact ⟨rfl, rfl⟩

theorem feSq2 (rd ra : Reg) : Statement (.feSq2 rd ra) := by
  unfold Statement; rw [fields_encode]; exact ⟨rfl, rfl⟩

theorem feReduce (rd ra : Reg) : Statement (.feReduce rd ra) := by
  unfold Statement; rw [fields_encode]; exact ⟨rfl, rfl⟩

theorem feInv (rd ra : Reg) : Statement (.feInv rd ra) := by
  unfold Statement; rw [fields_encode]; exact ⟨rfl, rfl⟩

theorem feCmov (rd ra rb : Reg) (c : Bool) : Statement (.feCmov rd ra rb c) := by
  unfold Statement; rw [fields_encode]; exact ⟨rfl, rfl⟩

theorem feIsneg (ra : Reg) : Statement (.feIsneg ra) := by
  unfold Statement; rw [fields_encode]; exact ⟨rfl, rfl⟩

theorem feTobytes (ra : Reg) : Statement (.feTobytes ra) := by
  unfold Statement; rw [fields_encode]; exact ⟨rfl, rfl⟩

theorem geId (rd : Reg) : Statement (.geId rd) := by
  unfold Statement; rw [fields_encode]; exact ⟨rfl, rfl⟩

theorem geDbl (rd ra : Reg) : Statement (.geDbl rd ra) := by
  unfold Statement; rw [fields_encode]; exact ⟨rfl, rfl⟩

theorem geMadd (rd ra rb : Reg) : Statement (.geMadd rd ra rb) := by
  unfold Statement; rw [fields_encode]; exact ⟨rfl, rfl⟩

theorem geC2p (rd ra : Reg) : Statement (.geC2p rd ra) := by
  unfold Statement; rw [fields_encode]; exact ⟨rfl, rfl⟩

theorem geC2e (rd ra : Reg) : Statement (.geC2e rd ra) := by
  unfold Statement; rw [fields_encode]; exact ⟨rfl, rfl⟩

theorem geE2p (rd ra : Reg) : Statement (.geE2p rd ra) := by
  unfold Statement; rw [fields_encode]; exact ⟨rfl, rfl⟩

theorem geEncode (ra : Reg) : Statement (.geEncode ra) := by
  unfold Statement; rw [fields_encode]; exact ⟨rfl, rfl⟩

theorem scClamp : Statement .scClamp := by
  unfold Statement; rw [fields_encode]; exact ⟨rfl, rfl⟩

theorem geSelect (rd : Reg) (blk : Block) (dig : Int) : Statement (.geSelect rd blk dig) := by
  unfold Statement; rw [fields_encode]; exact ⟨rfl, rfl⟩

theorem geSmulb (rd : Reg) : Statement (.geSmulb rd) := by
  unfold Statement; rw [fields_encode]; exact ⟨rfl, rfl⟩

theorem b2Init : Statement .b2Init := by
  unfold Statement; rw [fields_encode]; exact ⟨rfl, rfl⟩

theorem b2Update : Statement .b2Update := by
  unfold Statement; rw [fields_encode]; exact ⟨rfl, rfl⟩

theorem b2Final : Statement .b2Final := by
  unfold Statement; rw [fields_encode]; exact ⟨rfl, rfl⟩

theorem kdDerive : Statement .kdDerive := by
  unfold Statement; rw [fields_encode]; exact ⟨rfl, rfl⟩

theorem nop : Statement .nop := by
  unfold Statement; rw [fields_encode]; exact ⟨rfl, rfl⟩

end Sys2Proof.Laws.EncodeFields
end

