-- ==== Sys2Proof/Laws/Registers.lean ====
section
/-! SUPPORT. Laws/Registers.lean: read after write for limbs, field registers and groups. -/

namespace Sys2Proof.Machine

/-! ### Limbs (R40) -/

theorem limb_of_ge (f : FieldElement) {i : Nat} (h : 10 ≤ i) : f.limb i = 0#32 := by
  unfold FieldElement.limb; split <;> first | omega | rfl

theorem limb_setLimb_same (f : FieldElement) {i : Nat} (v : Limb) (h : i < 10) :
    (f.setLimb i v).limb i = v := by
  have : i = 0 ∨ i = 1 ∨ i = 2 ∨ i = 3 ∨ i = 4 ∨ i = 5 ∨ i = 6 ∨ i = 7 ∨ i = 8 ∨ i = 9 := by omega
  rcases this with rfl | rfl | rfl | rfl | rfl | rfl | rfl | rfl | rfl | rfl <;> rfl

theorem limb_setLimb_other (f : FieldElement) {i j : Nat} (v : Limb) (h : j ≠ i) :
    (f.setLimb i v).limb j = f.limb j := by
  unfold FieldElement.setLimb
  split <;> first | rfl | (unfold FieldElement.limb; split <;> first | rfl | exact absurd rfl h)

/-- Two field elements with the same ten limbs are the same. -/
theorem FieldElement.ext_limb {f g : FieldElement} (h : ∀ i, i < 10 → f.limb i = g.limb i) : f = g := by
  cases f; cases g
  have h0 := h 0 (by omega); have h1 := h 1 (by omega); have h2 := h 2 (by omega)
  have h3 := h 3 (by omega); have h4 := h 4 (by omega); have h5 := h 5 (by omega)
  have h6 := h 6 (by omega); have h7 := h 7 (by omega); have h8 := h 8 (by omega)
  have h9 := h 9 (by omega)
  simp only [FieldElement.limb] at h0 h1 h2 h3 h4 h5 h6 h7 h8 h9
  subst h0 h1 h2 h3 h4 h5 h6 h7 h8 h9
  rfl

/-! ### Field registers (R15, R16) -/

theorem readFr_of_ge (s : State) {n : Nat} (h : 32 ≤ n) : s.readFr n = FieldElement.zero := by
  simp [State.readFr, Vector.getD, Nat.not_lt.mpr h]

theorem readFr_eq_getElem (s : State) {n : Nat} (h : n < 32) : s.readFr n = s.fr[n] := by
  simp [State.readFr, Vector.getD, h]

theorem readFr_writeFr_same (s : State) {n : Nat} (f : FieldElement) (h : n < 32) :
    (s.writeFr n f).readFr n = f := by
  rw [readFr_eq_getElem _ h]; simp [State.writeFr]

theorem readFr_writeFr_other (s : State) {n m : Nat} (f : FieldElement) (h : m ≠ n) :
    (s.writeFr n f).readFr m = s.readFr m := by
  by_cases hm : m < 32
  · rw [readFr_eq_getElem _ hm, readFr_eq_getElem _ hm]
    simp [State.writeFr, Ne.symm h]
  · rw [readFr_of_ge _ (by omega), readFr_of_ge _ (by omega)]

@[simp] theorem readFr_complete (s : State) (c : ErrorCode) (n : Nat) :
    (s.complete c).readFr n = s.readFr n := rfl

@[simp] theorem readFr_accept (s : State) (v : Word) (n : Nat) : (s.accept v).readFr n = s.readFr n := rfl

/-! ### Groups (R17, R18) -/

@[simp] theorem groupFits_iff (r : Reg) (k : Nat) : groupFits r k = true ↔ r.val + k ≤ 32 := by
  simp [groupFits]

/-- A register outside G(r, 3) is unchanged by a group write. -/
theorem readFr_writeGroup3_other (s : State) (r : Reg) (a b c : FieldElement) {n : Nat}
    (h : n < r.val ∨ r.val + 3 ≤ n) : (s.writeGroup3 r a b c).readFr n = s.readFr n := by
  unfold State.writeGroup3
  rw [readFr_writeFr_other _ _ (by omega), readFr_writeFr_other _ _ (by omega),
    readFr_writeFr_other _ _ (by omega)]

/-- A register outside G(r, 4) is unchanged by a group write. -/
theorem readFr_writeGroup4_other (s : State) (r : Reg) (a b c d : FieldElement) {n : Nat}
    (h : n < r.val ∨ r.val + 4 ≤ n) : (s.writeGroup4 r a b c d).readFr n = s.readFr n := by
  unfold State.writeGroup4
  rw [readFr_writeFr_other _ _ (by omega), readFr_writeGroup3_other _ _ _ _ _ (by omega)]

/-- A projective group reads back what was written to it (R18). -/
theorem readProjective_writeProjective (s : State) (r : Reg) (p : Projective) (h : r.val + 3 ≤ 32) :
    (s.writeProjective r p).readProjective r = p := by
  unfold State.readProjective State.writeProjective State.writeGroup3
  rw [readFr_writeFr_other _ _ (by omega), readFr_writeFr_other _ _ (by omega),
    readFr_writeFr_same _ _ (by omega), readFr_writeFr_other _ _ (by omega),
    readFr_writeFr_same _ _ (by omega), readFr_writeFr_same _ _ (by omega)]

/-- An extended group reads back what was written to it (R18). -/
theorem readExtended_writeExtended (s : State) (r : Reg) (p : Extended) (h : r.val + 4 ≤ 32) :
    (s.writeExtended r p).readExtended r = p := by
  unfold State.readExtended State.writeExtended State.writeGroup4 State.writeGroup3
  rw [readFr_writeFr_other _ _ (by omega), readFr_writeFr_other _ _ (by omega),
    readFr_writeFr_other _ _ (by omega), readFr_writeFr_same _ _ (by omega),
    readFr_writeFr_other _ _ (by omega), readFr_writeFr_other _ _ (by omega),
    readFr_writeFr_same _ _ (by omega), readFr_writeFr_other _ _ (by omega),
    readFr_writeFr_same _ _ (by omega), readFr_writeFr_same _ _ (by omega)]

end Sys2Proof.Machine
end

