-- ==== Sys2Proof/Tests/Slice0.lean ====
section
/-! SUPPORT. Tests/Slice0.lean: the model's own tests.  Expected values come from the worked examples of the spec's rules
and from spec/95_test_vectors.md (named beside each test).  The second half shows, for every statement with hypotheses,
concrete values that meet them. -/

namespace Sys2Proof.Tests

open Sys2Proof Sys2Proof.Machine

set_option Elab.async false

/-! ### Helpers -/

/-- A field element from its first limbs, the rest 0. -/
def fe (l : List Int) : FieldElement :=
  let g := fun i => BitVec.ofInt 32 (l.getD i 0)
  ⟨g 0, g 1, g 2, g 3, g 4, g 5, g 6, g 7, g 8, g 9⟩

/-- `n` bytes written as one hex literal, byte 0 first. -/
def hexBytes (n v : Nat) : Vector Byte n := Vector.ofFn fun k => BitVec.ofNat 8 (v / 256 ^ (n - 1 - k.val))

/-- The reset state with some field registers loaded. -/
def withFr (l : List (Nat × List Int)) : State := l.foldl (fun s p => s.writeFr p.1 (fe p.2)) State.reset

/-- The state after a command. -/
def after (i : Instr) (s : State) : Option State :=
  match exec i s with
  | .next t => some t
  | _ => none

/-- A register and STATUS after a command. -/
def frAfter (i : Instr) (s : State) (n : Nat) : Option (FieldElement × Word) :=
  (after i s).map fun t => (t.readFr n, t.statusWord)

/-- Four registers after a command. -/
def groupAfter (i : Instr) (s : State) (n : Nat) : Option (List FieldElement) :=
  (after i s).map fun t => [t.readFr n, t.readFr (n + 1), t.readFr (n + 2), t.readFr (n + 3)]

/-- The state after a run of moves. -/
def play (ms : List Move) : Option State :=
  match Sys2Proof.core.run ms.length { State.reset with env := { HostSide.initial with moves := ms } } with
  | .next t => some t
  | _ => none

/-- A host write of a window offset. -/
def wr (a : Offset) (v : Word) : Move := .host (.write a v)

/-- What a host read returns in a state. -/
def rd (s : State) (a : Offset) : Word := (s.busRead a).env.rdata

/-- canon(p - 1) (95 Notation). -/
def pMinusOne : List Int :=
  [67108844, 33554431, 67108863, 33554431, 67108863, 33554431, 67108863, 33554431, 67108863, 33554431]

/-- The limbs of p itself (95 Notation). -/
def pLimbs : List Int :=
  [67108845, 33554431, 67108863, 33554431, 67108863, 33554431, 67108863, 33554431, 67108863, 33554431]

/-! ### WellFormed: each check refuses an ill-formed term -/

theorem test_wf_refuses_digit_above : (Instr.geSelect 16 0 16).wf = false := by decide
theorem test_wf_refuses_digit_below : (Instr.geSelect 16 0 (-17)).wf = false := by decide
theorem test_wf_accepts_digit_bounds :
    (Instr.geSelect 31 31 (-16)).wf = true ∧ (Instr.geSelect 0 0 15).wf = true := by decide

/-! ### Decode: every command's word, written out from R56 and R59 (95 §2.1) -/

theorem test_decode_feZero : decode 0x00000001#32 = .ok (.feZero 0) := by decide
theorem test_decode_feOne : decode 0x00000102#32 = .ok (.feOne 1) := by decide
theorem test_decode_feCopy : decode 0x00002203#32 = .ok (.feCopy 2 1) := by decide
theorem test_decode_feAdd : decode 0x00082304#32 = .ok (.feAdd 3 1 2) := by decide
theorem test_decode_feSub : decode 0x00040305#32 = .ok (.feSub 3 0 1) := by decide
theorem test_decode_feNeg : decode 0x00002406#32 = .ok (.feNeg 4 1) := by decide
theorem test_decode_feMul : decode 0x00082307#32 = .ok (.feMul 3 1 2) := by decide
theorem test_decode_feSq : decode 0x00002308#32 = .ok (.feSq 3 1) := by decide
theorem test_decode_feSq2 : decode 0x00002309#32 = .ok (.feSq2 3 1) := by decide
theorem test_decode_feReduce : decode 0x0000850A#32 = .ok (.feReduce 5 4) := by decide
theorem test_decode_feInv : decode 0x0000460B#32 = .ok (.feInv 6 2) := by decide
theorem test_decode_feCmov : decode 0x0088270C#32 = .ok (.feCmov 7 1 2 true)
    ∧ decode 0x0008270C#32 = .ok (.feCmov 7 1 2 false) := by decide
theorem test_decode_feIsneg : decode 0x0000800D#32 = .ok (.feIsneg 4) := by decide
theorem test_decode_feTobytes : decode 0x0000800E#32 = .ok (.feTobytes 4) := by decide
theorem test_decode_geId : decode 0x00000810#32 = .ok (.geId 8) := by decide
theorem test_decode_geDbl : decode 0x00010C11#32 = .ok (.geDbl 12 8) := by decide
theorem test_decode_geMadd : decode 0x00410C12#32 = .ok (.geMadd 12 8 16) := by decide
theorem test_decode_geC2p : decode 0x00019413#32 = .ok (.geC2p 20 12) := by decide
theorem test_decode_geC2e : decode 0x00018814#32 = .ok (.geC2e 8 12) := by decide
theorem test_decode_geE2p : decode 0x00011415#32 = .ok (.geE2p 20 8) := by decide
theorem test_decode_geEncode : decode 0x00010016#32 = .ok (.geEncode 8) := by decide
theorem test_decode_scClamp : decode 0x00000020#32 = .ok .scClamp := by decide
theorem test_decode_geSelect : decode 0x007C1021#32 = .ok (.geSelect 16 0 (-1))
    ∧ decode 0x0063F021#32 = .ok (.geSelect 16 31 (-8)) := by decide
theorem test_decode_geSmulb : decode 0x00000822#32 = .ok (.geSmulb 8) := by decide
theorem test_decode_b2 : decode 0x00000030#32 = .ok .b2Init ∧ decode 0x00000031#32 = .ok .b2Update
    ∧ decode 0x00000032#32 = .ok .b2Final := by decide
theorem test_decode_kdDerive : decode 0x00000040#32 = .ok .kdDerive := by decide
theorem test_decode_nop : decode 0x0000007F#32 = .ok .nop := by decide

/-- 95 §2.1, the decode corner cases: unused fields are ignored, RSV never is, unassigned opcodes are illegal. -/
theorem test_decode_corners : decode 0x00FFFF7F#32 = .ok .nop ∧ decode 0x00FFFF20#32 = .ok .scClamp
    ∧ decode 0x0100007F#32 = .error (.reservedBits 1#8) ∧ decode 0x80000001#32 = .error (.reservedBits 0x80#8)
    ∧ decode 0x00000000#32 = .error (.unassignedOpcode 0#8) ∧ decode 0x00000017#32 = .error (.unassignedOpcode 0x17#8)
    ∧ decode 0x007FFF04#32 = .ok (.feAdd 31 31 31) := by decide

/-- R62: the assembler's words. -/
theorem test_encode : encode (.geSelect 16 31 (-8)) = 0x0063F021#32 ∧ encode (.feCmov 7 1 2 true) = 0x0088270C#32
    ∧ encode (.geMadd 12 8 16) = 0x00410C12#32 := by decide

/-- The host's two questions, on one word. -/
theorem test_table_word : decodeTableWord 32 0x00082307 = some (.feMul 3 1 2)
    ∧ decodeTableWord 32 0x00000000 = none := by decide

theorem test_step_runs_the_placed_word :
    step (State.reset.withFetchWord 32 0x102) = exec (.feOne 1) (State.reset.withFetchWord 32 0x102) := rfl

/-! ### Field commands (R73 to R86, 95 §2.2) -/

theorem test_feZero : frAfter (.feZero 0) (withFr [(0, pLimbs)]) 0 = some (fe [], 2) := by decide +kernel
theorem test_feOne : frAfter (.feOne 1) State.reset 1 = some (fe [1], 2) := by decide +kernel
theorem test_feCopy : frAfter (.feCopy 2 1) (withFr [(1, pLimbs)]) 2 = some (fe pLimbs, 2) := by decide +kernel
/-- F4, and F5's wrap. -/
theorem test_feAdd : frAfter (.feAdd 3 1 2)
    (withFr [(1, [2147483647, 2, 3, 4, 5, 6, 7, 8, 9, 10]), (2, [1, 9, 8, 7, 6, 5, 4, 3, 2, 1])]) 3
      = some (fe [-2147483648, 11, 11, 11, 11, 11, 11, 11, 11, 11], 2) := by decide +kernel
theorem test_feAdd_aliased : frAfter (.feAdd 1 1 1) (withFr [(1, [1])]) 1 = some (fe [2], 2) := by decide +kernel
theorem test_feSub : frAfter (.feSub 3 0 1) (withFr [(1, [1])]) 3 = some (fe [-1], 2) := by decide +kernel
/-- F8 and F9. -/
theorem test_feNeg : frAfter (.feNeg 4 1) (withFr [(1, [1, -2147483648])]) 4 = some (fe [-1, -2147483648], 2) := by
  decide +kernel
/-- F15: the edge of B3. -/
theorem test_feMul : frAfter (.feMul 3 1 1)
    (withFr [(1, [201326592, 100663296, 201326592, 100663296, 201326592, 100663296, 201326592, 100663296, 201326592,
      100663296])]) 3 = some (fe [5643, 1710, 2241, 1386, 1755, 1062, 1269, 738, 783, 414], 2) := by decide +kernel
/-- F12: the fold of limb 18 into limb 8. -/
theorem test_feMul_fold : frAfter (.feMul 3 1 2) (withFr [(1, [0, 0, 0, 0, 0, 0, 0, 0, 0, 1]),
    (2, [0, 0, 0, 0, 0, 0, 0, 0, 0, 1])]) 3 = some (fe [0, 0, 0, 0, 0, 0, 0, 0, 38], 2) := by decide +kernel
/-- F17. -/
theorem test_feSq : frAfter (.feSq 3 1) (withFr [(1, [0, 1])]) 3 = some (fe [0, 0, 2], 2) := by decide +kernel
/-- F19. -/
theorem test_feSq2 : frAfter (.feSq2 3 1) (withFr [(1, pMinusOne)]) 3 = some (fe [2], 2) := by decide +kernel
/-- F21. -/
theorem test_feReduce : frAfter (.feReduce 5 4) (withFr [(4, [-1])]) 5 = some (fe pMinusOne, 2) := by decide +kernel
/-- F24: 2^255 - 1 reduces to 18. -/
theorem test_feReduce_top : frAfter (.feReduce 5 4) (withFr [(4, [67108863, 33554431, 67108863, 33554431, 67108863,
    33554431, 67108863, 33554431, 67108863, 33554431])]) 5 = some (fe [18], 2) := by decide +kernel
set_option maxRecDepth 100000 in
/-- F26. -/
theorem test_feInv : frAfter (.feInv 6 2) (withFr [(2, [2])]) 6
    = some (fe [10, 0, 0, 0, 0, 0, 0, 0, 0, -16777216], 2) := by decide +kernel
/-- F30 and F31. -/
theorem test_feCmov : frAfter (.feCmov 7 1 2 true) (withFr [(1, [1]), (2, [5])]) 7 = some (fe [5], 2)
    ∧ frAfter (.feCmov 7 1 2 false) (withFr [(1, [1]), (2, [5])]) 7 = some (fe [1], 2) := by decide +kernel
/-- T1 and T2. -/
theorem test_feIsneg : ((after (.feIsneg 4) (withFr [(4, [1])])).map fun t => rd t 0x0010#13) = some 1#32
    ∧ ((after (.feIsneg 4) (withFr [(4, [-1])])).map fun t => rd t 0x0010#13) = some 0#32 := by decide +kernel
/-- T7. -/
theorem test_feTobytes : ((after (.feTobytes 4) (withFr [(4, [52811034, 25909283, 16144682, 17082669, 27570973,
    30858332, 40966398, 8378388, 20764389, 8758491])])).map fun t => t.out32)
      = some (hexBytes 32 0x1ad5258f602d56c9b2a7259560c72c695cdcd6fd31e2a4c0fe536ecdd3366921) := by decide +kernel

/-! ### Group commands (R93 to R99, 95 §2.3) -/

theorem test_geId : groupAfter (.geId 8) State.reset 8 = some [fe [], fe [1], fe [1], fe []] := by decide +kernel
/-- GE_DBL of the base point, limb-exact. -/
theorem test_geDbl : groupAfter (.geDbl 12 8) (withFr [
      (8, [52811034, 25909283, 16144682, 17082669, 27570973, 30858332, 40966398, 8378388, 20764389, 8758491]),
      (9, [40265304, 26843545, 13421772, 20132659, 26843545, 6710886, 53687091, 13421772, 40265318, 26843545]),
      (10, [1])]) 12
    = some [
      fe [57654124, -12232238, -54699144, 488726, 17270012, 22529786, -28406172, 26827195, -33885842, -12829959],
      fe [-39817638, 22897961, 32736299, 7173559, -10640660, -29693115, 20614577, -20177668, 10647647, 3097778],
      fe [-3132020, -6791833, -11261463, -15226623, -96758, 165215, -15245867, 1387186, 53776863, -27256970],
      fe [3132022, 6791833, 11261463, 15226623, 96758, -165215, 15245867, -1387186, -53776863, 27256970]] := by
  decide +kernel
/-- A group past FR[31] is BAD_OPERAND, with nothing written; the last that fits completes. -/
theorem test_geDbl_bounds : (after (.geDbl 0 30) State.reset).map (·.statusWord) = some 0x22#32
    ∧ (after (.geDbl 0 29) State.reset).map (·.statusWord) = some 0x2#32 := by decide +kernel
theorem test_geMadd : groupAfter (.geMadd 12 8 16) (withFr [(9, [1]), (10, [1]), (16, [1]), (17, [1])]) 12
    = some [fe [], fe [2], fe [2], fe [2]] := by decide +kernel
/-- GE_MADD of B with ROM[0][0]'s limbs, limb-exact. -/
theorem test_geMadd_base : groupAfter (.geMadd 12 8 16) (withFr [
      (8, [52811034, 25909283, 16144682, 17082669, 27570973, 30858332, 40966398, 8378388, 20764389, 8758491]),
      (9, [40265304, 26843545, 13421772, 20132659, 26843545, 6710886, 53687091, 13421772, 40265318, 26843545]),
      (10, [1]),
      (11, [28827043, 27438313, 39759291, 244362, 8635006, 11264893, 19351346, 13413597, 16611511, 27139452]),
      (16, [25967493, 19198397, 29566455, 3660896, 54414519, 4014786, 27544626, 21800161, 61029707, 2047604]),
      (17, [54563134, 934261, 64385954, 3049989, 66381436, 9406985, 12720692, 5043384, 19500929, 18085054]),
      (18, [58370664, 4489569, 9688441, 18769238, 10184608, 21191052, 29287918, 11864899, 42594502, 29115885])]) 12
    = some [
      fe [48199384, 9089957, -42289425, 977451, 34540024, -22049292, 10296522, 20099957, -662819, -25659919],
      fe [-12526412, 12241489, -1636265, 14347119, -21281320, 7722634, -25879712, -6800903, -45813571, 6195557],
      fe [-6264078, -13583666, -22522926, 3101186, -193517, 330430, -30491734, 2774372, -26664002, 12594926],
      fe [6264082, 13583666, 22522926, -3101186, 193517, -330430, 30491734, -2774372, 26664002, -12594926]] := by
  decide +kernel
theorem test_geC2p : groupAfter (.geC2p 20 12) (withFr [(12, []), (13, [2]), (14, [3]), (15, [5])]) 20
    = some [fe [], fe [6], fe [15], fe []] := by decide +kernel
/-- In place: rd = ra reads all sources first. -/
theorem test_geC2e : groupAfter (.geC2e 12 12) (withFr [(12, [7]), (13, [2]), (14, [3]), (15, [5])]) 12
    = some [fe [35], fe [6], fe [15], fe [14]] := by decide +kernel
theorem test_geE2p : groupAfter (.geE2p 20 8) (withFr [(8, pLimbs), (9, [4]), (10, [-4]), (11, [9])]) 20
    = some [fe pLimbs, fe [4], fe [-4], fe []] := by decide +kernel
/-- A group past FR[31] (95 §2.1); the known vector below runs the encoding itself, sign bit set. -/
theorem test_geEncode_bounds : (after (.geEncode 30) State.reset).map (·.statusWord) = some 0x22#32 := by
  decide +kernel

/-! ### Fixed-base commands (R102 to R108, 95 §2.4) -/

theorem test_scClamp : (after .scClamp { State.reset with scalar := hexBytes 32 (2 ^ 256 - 1) }).map (·.scalar)
    = some (hexBytes 32 0xf8ffffffffffffffffffffffffffffffffffffffffffffffffffffffffffff7f) := by decide +kernel
/-- `GE_SELECT f16, 0, -1`. -/
theorem test_geSelect_negative : groupAfter (.geSelect 16 0 (-1)) State.reset 16 = some [
      fe [54563134, 934261, 64385954, 3049989, 66381436, 9406985, 12720692, 5043384, 19500929, 18085054],
      fe [25967493, 19198397, 29566455, 3660896, 54414519, 4014786, 27544626, 21800161, 61029707, 2047604],
      fe [-58370664, -4489569, -9688441, -18769238, -10184608, -21191052, -29287918, -11864899, -42594502, -29115885],
      fe []] := by decide +kernel
/-- A digit beyond ±8 selects the identity, and the last entry of the last block is R103's. -/
theorem test_geSelect_range : groupAfter (.geSelect 16 3 9) State.reset 16 = some [fe [1], fe [1], fe [], fe []]
    ∧ frAfter (.geSelect 16 31 8) State.reset 16 = some (fe [44660220, 15655568, 7018479, 29144429, 36794597,
      32352840, 65255398, 1367119, 25127874, 6671743], 2) := by decide +kernel
/-- Row 4 of the digit table. -/
theorem test_digits : (digits (hexBytes 32 (0x0809ffff * 2 ^ 224))).take 10 = [-8, 1, -7, 1, -1, 0, 0, 0, 1, 0] := by
  decide +kernel
/-- Row 5: the top digit of an unclamped scalar is not balanced (90_conflicts.md C8). -/
theorem test_digits_top : (digits (hexBytes 32 (2 ^ 256 - 1))).getD 63 0 = 16
    ∧ (digits (hexBytes 32 (2 ^ 256 - 1))).getD 0 0 = -1 := by decide +kernel
set_option maxRecDepth 100000 in
/-- SCALAR = 0, limb-exact: a model that skips zero digits gives (0, 1, 1, 0) (90_conflicts.md C2). -/
theorem test_geSmulb : groupAfter (.geSmulb 8) State.reset 8 = some [fe [],
      fe [-947565, 6097708, -469190, 10704810, -8556274, -15589498, -16424464, -16608899, 14028613, -5004649],
      fe [-947565, 6097708, -469190, 10704810, -8556274, -15589498, -16424464, -16608899, 14028613, -5004649],
      fe []] := by decide +kernel

/-! ### Hash commands (R111 to R120, 95 §2.5) -/

/-- H[0] of the default configuration (R118's example). -/
theorem test_b2Init : ((after .b2Init State.reset).map fun t => (wordAt t.b2.h 0, t.b2.buflen, t.b2.nn, t.statusWord))
    = some (0x6A09E667F2BDC948#64, 0#8, 64#7, 0x102#32) := by decide +kernel
/-- R118's keyed example: OUTLEN 32, KEYLEN 3. -/
theorem test_b2Init_keyed : ((after .b2Init { State.reset with
      b2cfg := B2Config.ofWord 0x320#32, key := hexBytes 64 (0x6b6579 * 2 ^ 488) }).map
        fun t => (wordAt t.b2.h 0, t.b2.buflen, byteAt t.b2.buf 2, byteAt t.b2.buf 3))
    = some (0x6A09E667F2BDCA28#64, 128#8, 0x79#8, 0#8) := by decide +kernel
/-- R119: a full buffer is compressed only when one more byte comes. -/
theorem test_b2Update : ((after .b2Update { State.reset with
      b2len := 1#8, b2 := { Blake2bState.reset with engine := .initialized, buflen := 127#8 } }).map
        fun t => (t.b2.t, t.b2.buflen, wordAt t.b2.h 0)) = some (0#128, 128#8, 0#64)
    ∧ ((after .b2Update { State.reset with
      b2len := 1#8, b2 := { Blake2bState.reset with engine := .updating, buflen := 128#8 } }).map
        fun t => (t.b2.t, t.b2.buflen)) = some (128#128, 1#8) := by decide +kernel
/-- B22 and B19: BAD_OPERAND before STATE_ERROR (R128). -/
theorem test_b2Update_errors : (after .b2Update { State.reset with b2len := 129#8 }).map (·.statusWord) = some 0x22#32
    ∧ (after .b2Update State.reset).map (·.statusWord) = some 0x32#32 := by decide +kernel
set_option maxRecDepth 100000 in
/-- The BLAKE2b-512 of the empty string (95 V1.2). -/
theorem test_b2Final : (((after .b2Init State.reset).bind (after .b2Final)).map fun t => (t.digest, t.statusWord))
    = some (hexBytes 64 0x786a02f742015903c6c6fd852552d272912f4740e15847618a86e217f71f5419d25e1031afee585313896444934eb04b903a685b1448b755d56f701afe9be2ce,
      0x302#32) := by decide +kernel
/-- B20: B2_FINAL after reset is STATE_ERROR. -/
theorem test_b2Final_error : (after .b2Final State.reset).map (·.statusWord) = some 0x32#32 := by decide +kernel
/-- B16: SALTLEN 8 is CONFIG_ERROR. -/
theorem test_b2Init_error : (after .b2Init { State.reset with b2cfg := B2Config.ofWord 0x00080040#32 }).map
    (·.statusWord) = some 0x42#32 := by decide +kernel

/-! ### Key derivation and NOP (R123, R125, 95 §2.6) -/

set_option maxRecDepth 100000 in
/-- The source's known vector (95 V1.1). -/
theorem test_kdDerive_known_vector : ((after .kdDerive { State.reset with
      seed := hexBytes 32 0x3031323334353637383941424344454630313233343536373839414243444546 }).map
        fun t => (t.pubkey, t.expanded, t.statusWord))
    = some (hexBytes 32 0xf1bf51c532c8b2eb4fb7d20d1029e6904ea7668daeedfa2d2d938500b2205d92,
      hexBytes 64 0x3031323334353637383941424344454630313233343536373839414243444546f1bf51c532c8b2eb4fb7d20d1029e6904ea7668daeedfa2d2d938500b2205d92,
      0x2#32) := by decide +kernel
/-- K3: SEEDLEN = 31. -/
theorem test_kdDerive_error : (after .kdDerive { State.reset with seedlen := 31#8 }).map
    (fun t => (t.statusWord, t.pubkey)) = some (0x52#32, zeroBytes 32) := by decide +kernel
theorem test_nop : (after .nop { State.reset with err := .stateError }).map (·.statusWord) = some 0x2#32 := by
  decide +kernel

/-! ### The host interface (95 §2.7) -/

/-- H1 and H2. -/
theorem test_reset_reads : [0x0000#13, 0x0004#13, 0x0008#13, 0x000C#13, 0x0014#13, 0x001C#13, 0x0020#13, 0x1028#13,
    0x1800#13].map (rd State.reset) = [0x4E475237#32, 0#32, 0#32, 0#32, 0x40#32, 0x20#32, 0#32, 0#32, 0#32] := by
  decide +kernel
/-- H3: ignored writes set no OVR. -/
theorem test_ignored_writes : (play [wr 0x0000#13 0x12345678#32, wr 0x0200#13 0xFFFFFFFF#32, wr 0x0020#13 5#32]).map
    (fun t => (rd t 0x0000#13, rd t 0x0200#13, rd t 0x0008#13)) = some (0x4E475237#32, 0#32, 0#32) := by decide +kernel
/-- R40: 0x1088 is limb 2 of FR[2] (H4 of 95 says FR[3]; the rule wins, assumption 12). -/
theorem test_limb_write : (play [wr 0x1088#13 0xFFFFFFFF#32]).map (fun t => (t.readFr 2, t.readFr 3))
    = some (fe [0, 0, -1], fe []) := by decide +kernel
/-- H5. -/
theorem test_b2cfg_reserved : (play [wr 0x0014#13 0xFFFFFFFF#32]).map (fun t => rd t 0x0014#13)
    = some 0x1F1F7F7F#32 := by decide +kernel
/-- H6, with address bits 1:0 ignored (R46). -/
theorem test_byte_lanes : (play [wr 0x0243#13 0x03020100#32, wr 0x025C#13 0x1F1E1D1C#32]).map
    (fun t => (byteAt t.scalar 1, byteAt t.scalar 31, rd t 0x0240#13)) = some (1#8, 0x1F#8, 0x03020100#32) := by
  decide +kernel
/-- H7. -/
theorem test_hash_words : (play [wr 0x000C#13 0x30#32, .sequencer]).map (fun t => (rd t 0x0300#13, rd t 0x0304#13))
    = some (0xF2BDC948#32, 0x6A09E667#32) := by decide +kernel
/-- H8 to H10: irq. -/
theorem test_irq : (play [wr 0x0004#13 1#32, wr 0x000C#13 0x7F#32]).map (fun t => (t.statusWord, t.irq))
      = some (1#32, false)
    ∧ (play [wr 0x0004#13 1#32, wr 0x000C#13 0x7F#32, .sequencer]).map (fun t => (t.statusWord, t.irq))
      = some (2#32, true)
    ∧ (play [wr 0x0004#13 1#32, wr 0x000C#13 0x7F#32, .sequencer, wr 0x0008#13 2#32]).map
      (fun t => (t.statusWord, t.irq)) = some (0#32, false) := by decide +kernel
/-- H11: dropped writes. -/
theorem test_dropped_writes : (play [wr 0x000C#13 0x102#32, wr 0x1000#13 7#32, wr 0x000C#13 0x7F#32, .sequencer]).map
    (fun t => (t.statusWord, t.readFr 0, t.readFr 1, t.inflight)) = some (6#32, fe [], fe [1], 0x102#32) := by
  decide +kernel
/-- H13: a soft reset aborts the command in flight, which never completes. -/
theorem test_soft_reset : (play [wr 0x0004#13 1#32, wr 0x000C#13 0x102#32, wr 0x0004#13 3#32, .sequencer]).map
    (fun t => (t.statusWord, t.ctrlWord, t.readFr 1)) = some (0#32, 0#32, fe []) := by decide +kernel
/-- H14: the illegal word 0, then NOP clears ERR. -/
theorem test_illegal_word : (play [wr 0x000C#13 0#32, .sequencer]).map (·.statusWord) = some 0x12#32
    ∧ (play [wr 0x000C#13 0#32, .sequencer, wr 0x000C#13 0x7F#32, .sequencer]).map (·.statusWord) = some 2#32 := by
  decide +kernel
/-- R139: while the reset input is asserted a write has no effect; its release leaves the reset state. -/
theorem test_hardware_reset : (play [wr 0x000C#13 0x102#32, .host .assertReset, wr 0x1000#13 7#32, .sequencer,
    .host .releaseReset]).map (fun t => decide (t = State.reset)) = some true := by decide +kernel

/-! ## Witnesses: values that meet the hypotheses of each statement together, clause by clause -/

/-- FE_ONE f1 in flight, right after its accept. -/
def busyOne : State := State.reset.accept 0x102#32

/-- The illegal word 0 in flight. -/
def busyIllegal : State := State.reset.accept 0#32

/-- The reset state with the interrupt enabled. -/
def enabled : State := { State.reset with ie := true }

/-- A context in progress: 127 bytes buffered. -/
def hashing : State :=
  { State.reset with b2len := 1#8, b2 := { Blake2bState.reset with engine := .updating, buflen := 127#8, nn := 64#7 } }

theorem witness_DecodeOfEncodeIsTheCommand :
    (Instr.geSelect 31 31 (-16)).wf = true ∧ (Instr.geSelect 0 0 15).wf = true ∧ (Instr.feCmov 31 0 31 true).wf = true := by
  decide

theorem witness_UnusedFieldsAreIgnored : decode 0x0000007F#32 = .ok .nop
    ∧ 0x00FFFF7F#32 &&& usedBits .nop = 0x0000007F#32 &&& usedBits .nop := by decide

theorem witness_IllegalWord : State.reset.phase = .idle ∧ State.reset.env.resetPin = false
    ∧ (0x0100007F#32).extractLsb' 24 8 ≠ 0#8 ∧ ((0x00000000#32).extractLsb' 0 8).toNat ∉ assignedOpcodes
    ∧ ((0x000000FF#32).extractLsb' 0 8).toNat ∉ assignedOpcodes := by decide

theorem witness_StepRunsTheCommandInFlight : busyOne.phase = .busy ∧ busyOne.env.resetPin = false
    ∧ decode busyOne.inflight = .ok (.feOne 1) ∧ busyOne.env.moves = []
    ∧ ({ busyOne with env := { busyOne.env with moves := [.sequencer] } } : State).env.moves = [.sequencer]
    ∧ State.reset.phase = .idle ∧ State.reset.env.moves = []
    ∧ busyOne.assertReset.env.resetPin = true ∧ busyOne.assertReset.env.moves = [] := by
  decide

theorem witness_CmdWriteAcceptsTheWord : State.reset.phase = .idle ∧ State.reset.env.resetPin = false
    ∧ ({ State.reset with env := { HostSide.initial with moves := [wr 0x000C#13 0x102#32] } } : State).env.moves
      = .host (.write 0x000C#13 0x102#32) :: [] := by decide

theorem witness_FailedCommandLeavesTheStateBefore :
    (after .b2Update State.reset).map (fun t => decide (t.err ≠ .none)) = some true := by decide +kernel

theorem witness_CommandsWriteOnlyTheirDestinations : (after (.feOne 1) State.reset).isSome = true
    ∧ mayWrite (.feOne 1) (.limb 2 0) = false ∧ Loc.limb 2 0 ≠ .status
    ∧ mayWrite (.feOne 1) (.limb 0 9) = false ∧ mayWrite (.feOne 1) (.limb 1 9) = true := by decide +kernel

/-- The moves hold a dropped write, a CTRL write that sets IE with SRST = 0, and a poll. -/
theorem witness_AcceptedCommandCompletes :
    let s : State := { busyOne with env := { busyOne.env with
      moves := [wr 0x1000#13 5#32, wr 0x0004#13 1#32, .host (.read 0x0008#13)] } }
    s.phase = .busy ∧ s.env.resetPin = false
      ∧ ∀ m ∈ s.env.moves, m ≠ .host .assertReset
        ∧ ∀ a w, m = .host (.write a w) → locOf a = .ctrl → w.getLsbD 1 = false := by
  refine ⟨rfl, rfl, ?_⟩
  intro m hm
  simp only [List.mem_cons, List.not_mem_nil, or_false] at hm
  rcases hm with rfl | rfl | rfl
  · refine ⟨by decide, ?_⟩
    intro a w h _
    cases h
    decide
  · refine ⟨by decide, ?_⟩
    intro a w h _
    cases h
    decide
  · exact ⟨by decide, fun a w h => nomatch h⟩

theorem witness_EveryLatencyIsAdmitted : State.reset.phase = .idle ∧ State.reset.env.resetPin = false := by decide

theorem witness_IrqIsEnableAndDone : (after .nop enabled).isSome = true ∧ (0x2#32).getLsbD 1 = true
    ∧ (0xFFFFFFFE#32).getLsbD 0 = false := by decide +kernel

/-- The invariant holds in a state other than the one after reset, and a step goes on from it. -/
theorem witness_StepKeepsTheInvariant : enabled.Inv ∧ ∃ t, step enabled = .next t := by
  refine ⟨⟨by decide, rfl, rfl, fun _ => rfl, fun h => absurd rfl h, (fun h => nomatch h),
    (fun h => nomatch h), ?_, (fun h => nomatch h)⟩, enabled, rfl⟩
  intro k _
  exact (byteAt_zeroBytes 64 (32 + k)).trans (byteAt_zeroBytes 32 k).symm

theorem witness_WindowFollowsTheAddressMap : ∃ row ∈ windowTable, 511 < row.2.1 ∧ row.1 + 4 * 511 = 0x1FFC :=
  ⟨(0x1800, 512, fun _ => .reserved), by simp [windowTable], by decide, by decide⟩

/-- A read of the idle block at an unaligned address, a write, and both changes of the reset input, each at the head. -/
theorem witness_AddressLowBits : (0x1003#13).extractLsb' 2 11 = (0x1000#13).extractLsb' 2 11
    ∧ State.reset.phase = .idle ∧ State.reset.env.resetPin = false
    ∧ ∀ x ∈ [HostAction.read 0x0009#13, .write 0x1000#13 5#32, .assertReset, .releaseReset],
      ({ State.reset with env := { HostSide.initial with moves := [.host x] } } : State).env.moves = .host x :: [] := by
  decide

/-- Both window statements: the last word of a RW row, a read-only row, CMD, and the window's last word. -/
theorem witness_Window : State.reset.phase = .idle ∧ State.reset.env.resetPin = false
    ∧ (locOf 0x013C#13 ≠ .ctrl ∧ locOf 0x013C#13 ≠ .status ∧ locOf 0x013C#13 ≠ .cmd ∧ Loc.bytes .key 14 ≠ locOf 0x013C#13)
    ∧ (locOf 0x0200#13 ≠ .ctrl ∧ locOf 0x0200#13 ≠ .status) ∧ (locOf 0x000C#13 ≠ .ctrl ∧ locOf 0x000C#13 ≠ .status)
    ∧ (locOf 0x1FFC#13 ≠ .ctrl ∧ locOf 0x1FFC#13 ≠ .status) := by
  rw [show locOf 0x013C#13 = .bytes .key 15 from rfl, show locOf 0x0200#13 = .bytes .digest 0 from rfl,
    show locOf 0x000C#13 = .cmd from rfl, show locOf 0x1FFC#13 = .reserved from rfl]
  exact ⟨rfl, rfl, by simp, by simp, by simp, by simp⟩

theorem witness_ReservedAndReadOnlyIgnoreWrites : State.reset.phase = .idle
    ∧ (storedBits (locOf 0x0000#13) = 0#32 ∧ locOf 0x0000#13 ≠ .ctrl ∧ locOf 0x0000#13 ≠ .status)
    ∧ (storedBits (locOf 0x0020#13) = 0#32 ∧ locOf 0x0020#13 ≠ .ctrl ∧ locOf 0x0020#13 ≠ .status)
    ∧ (storedBits (locOf 0x1FFC#13) = 0#32 ∧ locOf 0x1FFC#13 ≠ .ctrl ∧ locOf 0x1FFC#13 ≠ .status) := by
  rw [show locOf 0x0000#13 = .id from rfl, show locOf 0x0020#13 = .reserved from rfl,
    show locOf 0x1FFC#13 = .reserved from rfl]
  exact ⟨rfl, ⟨rfl, by simp, by simp⟩, ⟨rfl, by simp, by simp⟩, ⟨rfl, by simp, by simp⟩⟩

theorem witness_FieldRegisterLimbsAreMapped : (31 : Nat) < 32 ∧ (9 : Nat) < 10 ∧ 0x28 ≤ 0x28 ∧ 0x3F < 0x40
    ∧ State.reset.phase = .idle ∧ State.reset.env.resetPin = false := by decide

/-- The last byte of a register, and the last word of a 4-word, an 8-word, a 16-word and a 32-word one. -/
theorem witness_ByteRegistersArePackedLittleEndian : (127 : Nat) < 128 ∧ (3 : Nat) < 4 ∧ (7 : Nat) < 8 ∧ (15 : Nat) < 16
    ∧ (31 : Nat) < 32 ∧ State.reset.phase = .idle ∧ State.reset.env.resetPin = false := by decide

theorem witness_WideHashStateIsLowWordFirst : (3 : Nat) < 4 := by decide

/-- Dropped writes need BUSY; the CTRL and STATUS clauses are met in an idle and in a busy state. -/
theorem witness_BusyWritesAreDroppedAndSetOvr : busyOne.phase = .busy ∧ busyOne.env.resetPin = false
    ∧ State.reset.phase = .idle ∧ State.reset.env.resetPin = false
    ∧ (locOf 0x000C#13 ≠ .ctrl ∧ locOf 0x000C#13 ≠ .status) ∧ locOf 0x000B#13 = .status ∧ locOf 0x0007#13 = .ctrl
    ∧ (0x3#32).getLsbD 1 = true ∧ (0x1#32).getLsbD 1 = false ∧ (after (.feOne 1) busyOne).isSome = true := by
  decide +kernel

theorem witness_BusyReadsOfDestinationsReturnAnyValue : busyOne.phase = .busy ∧ busyOne.env.resetPin = false
    ∧ decode busyOne.inflight = .ok (.feOne 1) ∧ mayWrite (.feOne 1) (locOf 0x1040#13) = true
    ∧ mayWrite (.feOne 1) (locOf 0x103C#13) = false ∧ mayWrite (.feOne 1) (locOf 0x1080#13) = false
    ∧ busyIllegal.phase = .busy ∧ decode busyIllegal.inflight = .error (.unassignedOpcode 0#8)
    ∧ locOf 0x0008#13 ∈ [Loc.id, .ctrl, .status, .cmd, .reserved] := by decide

theorem witness_SoftResetGivesTheResetState : busyOne.env.resetPin = false ∧ enabled.env.resetPin = false
    ∧ (0xFFFFFFFF#32).getLsbD 1 = true := by decide

theorem witness_HardwareResetHoldsTheBlock : busyOne.assertReset.env.resetPin = true := by decide

theorem witness_MulsumIsTheDoubleLoop : (0 : Nat) < 10 ∧ (9 : Nat) < 10 := by decide

/-- A limb of the chain's result; the clauses of a carry step: the sum it leaves, the wrap from 9 to 0, the sum it enters, and another one. -/
theorem witness_CarryStepRoundsAndPropagates : (9 : Nat) < 10 ∧ ((9 : Nat) = 9 ∧ (0 : Nat) ≠ 9)
    ∧ ((5 : Nat) = 4 + 1 ∧ (4 : Nat) < 10) ∧ ((7 : Nat) ≠ 4 ∧ (7 : Nat) ≠ 4 + 1) := by decide

/-- The edges of B3 and B2. -/
theorem witness_MultipliesAreCongruentInTheirDomains :
    (fe [201326592, -100663296, 201326592, 100663296, 201326592, 100663296, 201326592, 100663296, 201326592,
      100663296]).Bounded 3
    ∧ (fe [134217728, -67108864, 134217728, 67108864, 134217728, 67108864, 134217728, 67108864, 134217728,
      67108864]).Bounded 2 := by
  unfold FieldElement.Bounded
  decide +kernel

theorem witness_ReduceIsTheTwoLoops : (0 : Nat) < 10 ∧ (9 : Nat) < 10 := by decide

theorem witness_ReduceIsCanonicalInItsDomain : (fe [-201326592, 0, 0, 0, 0, 0, 0, 0, 0, -100663296]).Bounded 3 := by
  unfold FieldElement.Bounded
  decide +kernel

theorem witness_PackTableGivesTheBytes : (fe pMinusOne).InRange ∧ (31 : Nat) < 32 := by
  unfold FieldElement.InRange
  decide +kernel

theorem witness_InvertIsThePowerPMinusTwo : ((withFr [(2, pLimbs)]).readFr 2).Bounded 3
    ∧ CongrP ((withFr [(2, pLimbs)]).readFr 2).val 0 := by
  unfold FieldElement.Bounded CongrP
  decide +kernel

theorem witness_InverseTimesElementReducesToOne : (fe [2]).Bounded 3 ∧ ¬ CongrP (fe [2]).val 0 := by
  unfold FieldElement.Bounded CongrP
  decide +kernel

/-- The last groups that fit, for every group command's statement: rd ≤ 28 or 29, ra ≤ 28 or 29, rb ≤ 29. -/
theorem witness_GroupsFit : (28 : Reg).val ≤ 28 ∧ (29 : Reg).val ≤ 29 ∧ (0 : Reg).val ≤ 28 := by decide

/-- B in canonical limbs (R94's example), whose limbs are not in class T. -/
theorem witness_DoublingFormulaOnValues :
    let s := withFr [
      (8, [52811034, 25909283, 16144682, 17082669, 27570973, 30858332, 40966398, 8378388, 20764389, 8758491]),
      (9, [40265304, 26843545, 13421772, 20132659, 26843545, 6710886, 53687091, 13421772, 40265318, 26843545]),
      (10, [1])]
    (s.readFr 8).Bounded 1 ∧ (s.readFr 9).Bounded 1 ∧ (s.readFr 10).Bounded 1 := by
  unfold FieldElement.Bounded
  decide +kernel

/-- The base point in canonical limbs as the extended operand (R95's example), ROM[0][0] as the precomputed one. -/
theorem witness_MixedAdditionFormulaOnValues :
    let q := rom 0 0
    let s := ((withFr [
      (8, [52811034, 25909283, 16144682, 17082669, 27570973, 30858332, 40966398, 8378388, 20764389, 8758491]),
      (9, [40265304, 26843545, 13421772, 20132659, 26843545, 6710886, 53687091, 13421772, 40265318, 26843545]),
      (10, [1]),
      (11, [28827043, 27438313, 39759291, 244362, 8635006, 11264893, 19351346, 13413597, 16611511,
        27139452])]).writePrecomp 16 q)
    (∀ j, j < 4 → (s.readFr (8 + j)).Bounded 1) ∧ (∀ j, j < 3 → (s.readFr (16 + j)).Bounded 1)
      ∧ CongrP (s.readFr 16).val ((basePoint.2 : Int) + basePoint.1)
      ∧ CongrP (s.readFr 17).val ((basePoint.2 : Int) - basePoint.1)
      ∧ CongrP (s.readFr 18).val (2 * (curveD : Int) * basePoint.1 * basePoint.2) := by
  unfold FieldElement.Bounded CongrP
  decide +kernel

theorem witness_ConversionsMultiplyCoordinates : ∀ j, j < 4 → ((withFr [(28, [3]), (31, [-3])]).readFr (28 + j)).Bounded 3 := by
  unfold FieldElement.Bounded
  decide +kernel

theorem witness_RomHoldsTheMultiplesOfTheBasePoint : (31 : Nat) < 32 ∧ (7 : Nat) < 8 := by decide

/-- The digits where SELECT's clauses meet. -/
theorem witness_GeSelectReadsTheTableByTheDigit : (1 : Int) ≤ 8 ∧ (-8 : Int) ≤ -1 ∧ (8 : Int) < 9 ∧ (-9 : Int) < -8
    ∧ ((1 : Int) ≤ 1 ∧ (1 : Int) ≤ 8) ∧ (-8 : Int) ≤ -8 := by decide

theorem witness_DigitsSumToTheScalar : (62 : Nat) < 63 := by decide

/-- Each cell of the state table that matters, the bad length and the bad configuration. -/
theorem witness_EngineFollowsTheStateTable : State.reset.b2cfg.legal = true ∧ State.reset.b2len.toNat ≤ 128
    ∧ (after .b2Init State.reset).isSome = true ∧ (after .b2Update hashing).isSome = true
    ∧ hashing.b2cfg.legal = true ∧ hashing.b2len.toNat ≤ 128 ∧ Instr.b2Final ∈ [Instr.b2Init, .b2Update, .b2Final]
    ∧ 128 < ({ State.reset with b2len := 129#8 } : State).b2len.toNat
    ∧ ({ State.reset with b2cfg := ⟨65#7, 0#7, 0#5, 0#5⟩ } : State).b2cfg.legal = false := by decide +kernel

/-- The configuration limits: 1 and 64 bytes of output, a 64-byte key, salt and personalization. -/
theorem witness_B2InitBuildsTheContext :
    ({ State.reset with b2cfg := ⟨64#7, 64#7, 16#5, 16#5⟩ } : State).b2cfg.legal = true
    ∧ ({ State.reset with b2cfg := ⟨1#7, 0#7, 0#5, 0#5⟩ } : State).b2cfg.legal = true := by decide

/-- No byte, the last append that fits, and the first that compresses. -/
theorem witness_B2UpdateCompressesAtMostOnce : hashing.b2.engine = .updating ∧ hashing.b2len.toNat ≤ 128
    ∧ hashing.b2.buflen.toNat ≤ 128 ∧ hashing.b2.buflen.toNat + hashing.b2len.toNat = 128
    ∧ ({ hashing with b2len := 0#8 } : State).b2len.toNat = 0
    ∧ 128 < ({ hashing with b2len := 2#8 } : State).b2.buflen.toNat + ({ hashing with b2len := 2#8 } : State).b2len.toNat := by
  decide

theorem witness_B2FinalPadsCompressesAndOutputs : hashing.b2.engine = .initialized ∨ hashing.b2.engine = .updating := by
  decide

/-- One message of 128 bytes, whole or cut 0 / 1 / 127. -/
theorem witness_StreamingGivesOneDigest :
    let m := List.replicate 127 7#8
    State.reset.b2cfg.legal = true ∧ (∀ x ∈ [1#8 :: m], x.length ≤ 128) ∧ (∀ x ∈ [[], [1#8], m], x.length ≤ 128)
      ∧ [1#8 :: m].flatten = [[], [1#8], m].flatten := by decide +kernel

theorem witness_KdDeriveDependsOnSeedAlone : State.reset.seedlen = 32#8 ∧ busyOne.seedlen = 32#8
    ∧ State.reset.seed = busyOne.seed := by decide

theorem witness_KdDeriveIsTheComposedSequence : State.reset.seedlen = 32#8
    ∧ ∀ k, k < 32 → byteAt (zeroBytes 128) k = byteAt State.reset.seed k := by decide +kernel

end Sys2Proof.Tests
end

section
/-! SUPPORT. What a command's rule can leave, said once for all 29 commands, and the two frames read off it: the
pieces of state that no command writes, and the window locations that are no destination of the command. -/

namespace Sys2Proof.Machine

/-! ### What a command can do -/

/-- `CommandWrites s i t`: the rule of command `i`, begun in `s` and raising no error, can leave `t` before the
completion (R19, R20).  One constructor per kind of destination. -/
inductive CommandWrites (s : State) : Instr → State → Prop
  /-- Field registers, and only those that are destinations. -/
  | registers {i : Instr} (fr' : Vector FieldElement 32)
      (keeps : ∀ n k, mayWrite i (.limb n k) = false → fr'.getD n FieldElement.zero = s.readFr n) :
      CommandWrites s i { s with fr := fr' }
  /-- RESULT.NEG (R85). -/
  | sign (ra : Reg) (b : Bool) : CommandWrites s (.feIsneg ra) { s with neg := b }
  /-- OUT32 (R86, R99). -/
  | output {i : Instr} (x : Vector Byte 32) (dest : ∀ m, mayWrite i (.bytes .out32 m) = true) :
      CommandWrites s i { s with out32 := x }
  /-- SCALAR (R104). -/
  | scalar (x : Vector Byte 32) : CommandWrites s .scClamp { s with scalar := x }
  /-- A new context, for a legal configuration (R118). -/
  | start (legal : s.b2cfg.legal = true) :
      CommandWrites s .b2Init { s with b2 := b2Start s.b2cfg s.key s.salt s.pers }
  /-- Input bytes absorbed by an engine that accepts data (R119). -/
  | absorb (xs : List Byte) (accepting : s.b2.engine.accepting = true) :
      CommandWrites s .b2Update { s with b2 := b2AbsorbAll s.b2 xs }
  /-- The last block and the digest (R120). -/
  | digest (accepting : s.b2.engine.accepting = true) :
      CommandWrites s .b2Final { s with b2 := b2Finish s.b2, digest := digestOf (b2Finish s.b2) }
  /-- PUBKEY and EXPANDED together (R123). -/
  | keyPair (pk : Vector Byte 32) :
      CommandWrites s .kdDerive { s with pubkey := pk, expanded := expandKey s.seed pk }
  /-- Nothing (R125). -/
  | nothing : CommandWrites s .nop s

/-- What the rule of command `i` can answer in `s`: an error, or a state with only its destinations written. -/
inductive CommandResult (s : State) (i : Instr) : Except ErrorCode State → Prop
  | error (c : ErrorCode) : CommandResult s i (.error c)
  | ok {t : State} (writes : CommandWrites s i t) : CommandResult s i (.ok t)

/-- A rule that writes under a condition and else raises an error. -/
theorem CommandResult.guard {s t : State} {i : Instr} {c : Prop} [Decidable c] {e : ErrorCode}
    (h : c → CommandWrites s i t) : CommandResult s i (if c then .ok t else .error e) := by
  split
  · next hc => exact .ok (h hc)
  · exact .error e

theorem inGroup_limb_false_iff (r : Reg) (m n k : Nat) :
    (Loc.limb n k).inGroup r m = false ↔ n < r.val ∨ r.val + m ≤ n := by
  simp only [Loc.inGroup, Bool.and_eq_false_iff, decide_eq_false_iff_not]
  omega

/-- A command whose destination is one register may write it. -/
theorem CommandWrites.writeFr {s : State} {i : Instr} {rd : Reg} (f : FieldElement)
    (dest : mayWrite i = fun l => l.inGroup rd 1) : CommandWrites s i (s.writeFr rd.val f) :=
  .registers _ fun n k h => by
    rw [dest, inGroup_limb_false_iff] at h
    exact readFr_writeFr_other s f (by omega)

/-- A command whose destination is a group of three may write it. -/
theorem CommandWrites.writeGroup3 {s : State} {i : Instr} {rd : Reg} (a b c : FieldElement)
    (dest : mayWrite i = fun l => l.inGroup rd 3) : CommandWrites s i (s.writeGroup3 rd a b c) :=
  .registers _ fun n k h => by
    rw [dest, inGroup_limb_false_iff] at h
    exact readFr_writeGroup3_other s rd a b c h

/-- A command whose destination is a group of four may write it. -/
theorem CommandWrites.writeGroup4 {s : State} {i : Instr} {rd : Reg} (a b c d : FieldElement)
    (dest : mayWrite i = fun l => l.inGroup rd 4) : CommandWrites s i (s.writeGroup4 rd a b c d) :=
  .registers _ fun n k h => by
    rw [dest, inGroup_limb_false_iff] at h
    exact readFr_writeGroup4_other s rd a b c d h

/-- B2_UPDATE: a bad length comes before a bad engine state (R128). -/
theorem b2Update_result (s : State) : ∃ r, exec .b2Update s = finish s r ∧ CommandResult s .b2Update r := by
  refine ⟨_, rfl, ?_⟩
  split
  · exact .error _
  · exact .guard (.absorb _)

/-- Every command is the conclusion of a result that `CommandResult` allows it. -/
theorem exec_result (s : State) (i : Instr) : ∃ r, exec i s = finish s r ∧ CommandResult s i r :=
  match i with
  | .feZero _ => ⟨_, rfl, .ok (.writeFr _ rfl)⟩
  | .feOne _ => ⟨_, rfl, .ok (.writeFr _ rfl)⟩
  | .feCopy _ _ => ⟨_, rfl, .ok (.writeFr _ rfl)⟩
  | .feAdd _ _ _ => ⟨_, rfl, .ok (.writeFr _ rfl)⟩
  | .feSub _ _ _ => ⟨_, rfl, .ok (.writeFr _ rfl)⟩
  | .feNeg _ _ => ⟨_, rfl, .ok (.writeFr _ rfl)⟩
  | .feMul _ _ _ => ⟨_, rfl, .ok (.writeFr _ rfl)⟩
  | .feSq _ _ => ⟨_, rfl, .ok (.writeFr _ rfl)⟩
  | .feSq2 _ _ => ⟨_, rfl, .ok (.writeFr _ rfl)⟩
  | .feReduce _ _ => ⟨_, rfl, .ok (.writeFr _ rfl)⟩
  | .feInv _ _ => ⟨_, rfl, .ok (.writeFr _ rfl)⟩
  | .feCmov _ _ _ _ => ⟨_, rfl, .ok (.writeFr _ rfl)⟩
  | .feIsneg ra => ⟨_, rfl, .ok (.sign ra _)⟩
  | .feTobytes _ => ⟨_, rfl, .ok (.output _ fun _ => rfl)⟩
  | .geId _ => ⟨_, rfl, .guard fun _ => .writeGroup4 _ _ _ _ rfl⟩
  | .geDbl _ _ => ⟨_, rfl, .guard fun _ => .writeGroup4 _ _ _ _ rfl⟩
  | .geMadd _ _ _ => ⟨_, rfl, .guard fun _ => .writeGroup4 _ _ _ _ rfl⟩
  | .geC2p _ _ => ⟨_, rfl, .guard fun _ => .writeGroup3 _ _ _ rfl⟩
  | .geC2e _ _ => ⟨_, rfl, .guard fun _ => .writeGroup4 _ _ _ _ rfl⟩
  | .geE2p _ _ => ⟨_, rfl, .guard fun _ => .writeGroup3 _ _ _ rfl⟩
  | .geEncode _ => ⟨_, rfl, .guard fun _ => .output _ fun _ => rfl⟩
  | .scClamp => ⟨_, rfl, .ok (.scalar _)⟩
  | .geSelect _ _ _ => ⟨_, rfl, .guard fun _ => .writeGroup3 _ _ _ rfl⟩
  | .geSmulb _ => ⟨_, rfl, .guard fun _ => .writeGroup4 _ _ _ _ rfl⟩
  | .b2Init => ⟨_, rfl, .guard .start⟩
  | .b2Update => b2Update_result s
  | .b2Final => ⟨_, rfl, .guard .digest⟩
  | .kdDerive => ⟨_, rfl, .guard fun _ => .keyPair _⟩
  | .nop => ⟨_, rfl, .ok .nothing⟩

/-- The inversion of `exec` (R34, R129): a command completes with an error and leaves the state before it, or it
completes with ERR = 0 and only its destinations written. -/
theorem exec_cases (i : Instr) (s : State) :
    (∃ c, exec i s = .next (s.complete c))
      ∨ ∃ t, exec i s = .next (t.complete .none) ∧ CommandWrites s i t := by
  obtain ⟨r, hexec, hr⟩ := exec_result s i
  cases hr with
  | error c => exact .inl ⟨c, hexec⟩
  | ok hw => exact .inr ⟨_, hexec, hw⟩

/-! ### What no command writes -/

/-- The two states agree on the pieces of state that no command writes: OVR, CTRL.IE, INFLIGHT, the configuration, the
byte registers only the host writes, and the host side (R20, R32). -/
structure SameHostRegisters (s t : State) : Prop where
  ovr : t.ovr = s.ovr
  ie : t.ie = s.ie
  inflight : t.inflight = s.inflight
  b2cfg : t.b2cfg = s.b2cfg
  b2len : t.b2len = s.b2len
  seedlen : t.seedlen = s.seedlen
  key : t.key = s.key
  salt : t.salt = s.salt
  pers : t.pers = s.pers
  data : t.data = s.data
  seed : t.seed = s.seed
  env : t.env = s.env

theorem CommandWrites.sameHostRegisters {s t : State} {i : Instr} (h : CommandWrites s i t) :
    SameHostRegisters s t := by
  cases h <;> constructor <;> rfl

/-- Every command answers a completed state that agrees with the state before on what no command writes. -/
theorem exec_completes (i : Instr) (s : State) :
    ∃ t c, exec i s = .next (t.complete c) ∧ SameHostRegisters s t := by
  obtain ⟨c, hexec⟩ | ⟨t, hexec, hw⟩ := exec_cases i s
  · exact ⟨s, c, hexec, by constructor <;> rfl⟩
  · exact ⟨t, .none, hexec, hw.sameHostRegisters⟩

/-- Settles O7: a completion ends every command, and no command writes what only the host writes. -/
theorem completionSetsDoneAndKeepsTheHostRegisters :
    Obligations.CompletionSetsDoneAndKeepsTheHostRegisters := by
  intro i s
  obtain ⟨t, c, hexec, ovr, ie, inflight, b2cfg, b2len, seedlen, key, salt, pers, data, seed, env⟩ :=
    exec_completes i s
  exact ⟨t.complete c, hexec, rfl, rfl, ovr, ie, inflight, b2cfg, b2len, seedlen, key, salt, pers, data, seed, env⟩

/-! ### The window frame of a command -/

/-- The completion shows in STATUS alone (R34). -/
theorem readLoc_complete (s : State) (c : ErrorCode) {l : Loc} (hl : l ≠ .status) :
    (s.complete c).readLoc l = s.readLoc l := by
  cases l with
  | status => exact absurd rfl hl
  | _ => rfl

/-- The engine shows in its own windows and in STATUS.B2ST alone (R39). -/
theorem readLoc_withB2 (s : State) (b : Blake2bState) {l : Loc} (hl : l.inEngine = false) (hs : l ≠ .status) :
    ({ s with b2 := b } : State).readLoc l = s.readLoc l := by
  cases l with
  | status => exact absurd rfl hs
  | hash | counter | flag0 | flag1 | buflen | nn | buffer => cases hl
  | _ => rfl

/-- DIGEST shows in its own words alone (R39). -/
theorem readLoc_withDigest (s : State) (x : Vector Byte 64) {l : Loc} (hl : l.inBytes .digest = false) :
    ({ s with digest := x } : State).readLoc l = s.readLoc l := by
  cases l with
  | bytes r m =>
    cases r with
    | digest => cases hl
    | _ => rfl
  | _ => rfl

/-- What a command's rule writes shows only at the command's destinations and in STATUS. -/
theorem CommandWrites.readLoc_eq {s t : State} {i : Instr} (h : CommandWrites s i t) {l : Loc}
    (hl : mayWrite i l = false) (hs : l ≠ .status) : t.readLoc l = s.readLoc l := by
  cases h with
  | registers fr' keeps =>
    cases l with
    | limb n k => exact congrArg (·.limb k) (keeps n k hl)
    | _ => rfl
  | sign ra b =>
    cases l with
    | result => exact absurd hl (by simp [mayWrite])
    | _ => rfl
  | output x dest =>
    cases l with
    | bytes r m =>
      cases r with
      | out32 => exact absurd hl (by simp [dest])
      | _ => rfl
    | _ => rfl
  | scalar x =>
    cases l with
    | bytes r m =>
      cases r with
      | scalar => cases hl
      | _ => rfl
    | _ => rfl
  | start | absorb => exact readLoc_withB2 s _ hl hs
  | digest =>
    obtain ⟨hengine, hdigest⟩ := Bool.or_eq_false_iff.mp hl
    generalize b2Finish s.b2 = b
    exact (readLoc_withDigest { s with b2 := b } _ hdigest).trans (readLoc_withB2 s b hengine hs)
  | keyPair pk =>
    cases l with
    | bytes r m =>
      cases r with
      | pubkey | expanded => cases hl
      | _ => rfl
    | _ => rfl
  | nothing => rfl

/-- Settles O10: an error writes nothing but STATUS, and a success shows only at the destinations and in STATUS. -/
theorem commandsWriteOnlyTheirDestinations : Obligations.CommandsWriteOnlyTheirDestinations := by
  intro i s t l hexec hl hs
  obtain ⟨c, herror⟩ | ⟨u, hok, hw⟩ := exec_cases i s
  · cases hexec.symm.trans herror
    exact readLoc_complete s c hs
  · cases hexec.symm.trans hok
    exact (readLoc_complete u .none hs).trans (hw.readLoc_eq hl hs)

end Sys2Proof.Machine
end

section
/-! SUPPORT. What a step does, by the head of the move list and by whether the sequencer has a command to complete. -/

namespace Sys2Proof.Machine

/-! ### Whose turn it is, by the head of the moves -/

theorem nextTurn_of_no_moves {s : State} (h : s.env.moves = []) : s.nextTurn = s.sequencerTurn := by
  simp [State.nextTurn, h]

theorem nextTurn_of_sequencer {s : State} {ms : List Move} (h : s.env.moves = .sequencer :: ms) :
    s.nextTurn = State.sequencerTurn { s with env := { s.env with moves := ms } } := by
  simp [State.nextTurn, h]

theorem nextTurn_of_host {s : State} {a : HostAction} {ms : List Move} (h : s.env.moves = .host a :: ms) :
    s.nextTurn = .host a { s with env := { s.env with moves := ms } } := by
  simp [State.nextTurn, h]

/-! ### The sequencer's steps, on the state `u` less the move used up -/

/-- Busy and out of reset, the sequencer runs the legal command word in flight (R34). -/
theorem step_eq_exec {s u : State} {i : Instr} (turn : s.nextTurn = u.sequencerTurn) (busy : u.phase = .busy)
    (released : u.env.resetPin = false) (legal : decode u.inflight = .ok i) : step s = exec i u := by
  rw [step_of_command (turn.trans (sequencerTurn_command u busy released)), legal]

/-- Busy and out of reset, the sequencer completes an illegal word with ILLEGAL_COMMAND (R61). -/
theorem step_eq_completeIllegal {s u : State} {e : DecodeError} (turn : s.nextTurn = u.sequencerTurn)
    (busy : u.phase = .busy) (released : u.env.resetPin = false) (illegal : decode u.inflight = .error e) :
    step s = completeIllegal u := by
  rw [step_of_command (turn.trans (sequencerTurn_command u busy released)), illegal]

/-- Idle or held in reset, the sequencer does nothing (R33, R139). -/
theorem step_eq_wait {s u : State} (turn : s.nextTurn = u.sequencerTurn)
    (waits : u.phase = .idle ∨ u.env.resetPin = true) : step s = .next u := by
  obtain idle | held := waits
  · exact step_of_wait (turn.trans (sequencerTurn_idle u idle))
  · exact step_of_wait (turn.trans (sequencerTurn_held u held))

theorem step_of_sequencerTurn {s u : State} (turn : s.nextTurn = u.sequencerTurn) :
    step s = .next u
      ∨ u.env.resetPin = false ∧ ((∃ i, step s = exec i u) ∨ step s = completeIllegal u) := by
  cases hpin : u.env.resetPin with
  | true => exact .inl (step_eq_wait turn (.inr hpin))
  | false =>
    cases hphase : u.phase with
    | idle => exact .inl (step_eq_wait turn (.inl hphase))
    | busy =>
      cases hdecode : decode u.inflight with
      | ok i => exact .inr ⟨rfl, .inl ⟨i, step_eq_exec turn hphase hpin hdecode⟩⟩
      | error e => exact .inr ⟨rfl, .inr (step_eq_completeIllegal turn hphase hpin hdecode)⟩

/-- The inversion of `step`: on the state `u` less the move used up, the host acts, or nothing happens, or, out of
reset, the sequencer completes a command or an illegal word. -/
theorem step_cases (s : State) :
    ∃ ms u, u = { s with env := { s.env with moves := ms } }
      ∧ ((∃ a, step s = .next (u.hostAct a)) ∨ step s = .next u
        ∨ u.env.resetPin = false ∧ ((∃ i, step s = exec i u) ∨ step s = completeIllegal u)) := by
  obtain ⟨a, ms, -, hturn⟩ | ⟨ms, -, hturn⟩ | ⟨-, hturn⟩ := nextTurn_cases s
  · exact ⟨ms, _, rfl, .inl ⟨a, step_of_host hturn⟩⟩
  · exact ⟨ms, _, rfl, .inr (step_of_sequencerTurn hturn)⟩
  · exact ⟨s.env.moves, s, rfl, .inr (step_of_sequencerTurn hturn)⟩

/-- Settles O5: the turn is the sequencer's with no move left as with its own move at the head. -/
theorem stepRunsTheCommandInFlight : Obligations.StepRunsTheCommandInFlight := by
  refine ⟨fun s i busy released legal => ⟨fun hms => ?_, fun ms hms => ?_⟩,
    fun s waits => ⟨fun hms => ?_, fun ms hms => ?_⟩⟩
  · exact step_eq_exec (nextTurn_of_no_moves hms) busy released legal
  · exact step_eq_exec (nextTurn_of_sequencer hms) busy released legal
  · exact step_eq_wait (nextTurn_of_no_moves hms) waits
  · exact step_eq_wait (nextTurn_of_sequencer hms) waits

/-! ### The host's write of CMD -/

/-- While idle and out of reset a write has its location's effect (R38, R143). -/
theorem busWrite_idle (s : State) (idle : s.phase = .idle) (released : s.env.resetPin = false) (a : Offset)
    (w : Word) : s.busWrite a w = s.writeLoc (locOf a) w := by
  simp [State.busWrite, State.busy, idle, released]

/-- Settles O6: the write is performed, its offset is CMD's, and a write of CMD is an accept. -/
theorem cmdWriteAcceptsTheWord : Obligations.CmdWriteAcceptsTheWord := by
  intro s v ms idle released hms
  have hloc : locOf 0x000C#13 = .cmd := by decide
  rw [step_of_host (nextTurn_of_host hms), State.hostAct,
    busWrite_idle { s with env := { s.env with moves := ms } } idle released, hloc]
  rfl

end Sys2Proof.Machine
end

section
/-! SUPPORT. The invariant of the hash engine, the sequencer, the key and reset: the part that speaks of the engine
alone with its three operations, and that each thing a step can do keeps the invariant. -/

namespace Sys2Proof.Machine

/-! ### The engine's part of the invariant -/

/-- The clauses of `State.Inv` about the engine and DIGEST (R21, R115, R117, R120). -/
structure EngineInv (b : Blake2bState) (digest : Vector Byte 64) : Prop where
  buflen_le : b.buflen.toNat ≤ 128
  f1_zero : b.f1 = 0#64
  f0_final : b.f0 = if b.engine = .finalized then BitVec.allOnes 64 else 0#64
  fresh : b.engine = .uninitialized → b = Blake2bState.reset
  nn_range : b.engine ≠ .uninitialized → 1 ≤ b.nn.toNat ∧ b.nn.toNat ≤ 64
  digest_tail : b.engine = .finalized → ∀ k, b.nn.toNat ≤ k → byteAt digest k = 0#8

theorem State.Inv.engineInv {s : State} (h : s.Inv) : EngineInv s.b2 s.digest :=
  ⟨h.buflen_le, h.f1_zero, h.f0_final, h.fresh, h.nn_range, h.digest_tail⟩

/-- The invariant from its parts, for a state out of reset. -/
theorem EngineInv.inv {s : State} (h : EngineInv s.b2 s.digest)
    (busy : s.phase = .busy → s.done = false ∧ s.err = .none)
    (key : ∀ k, k < 32 → byteAt s.expanded (32 + k) = byteAt s.pubkey k)
    (released : s.env.resetPin = false) : s.Inv :=
  ⟨h.buflen_le, h.f1_zero, h.f0_final, h.fresh, h.nn_range, h.digest_tail, busy, key,
    fun held => absurd held (by simp [released])⟩

theorem EngineState.accepting_iff (e : EngineState) :
    e.accepting = true ↔ e ≠ .uninitialized ∧ e ≠ .finalized := by
  cases e <;> decide

theorem engineInv_reset : EngineInv Blake2bState.reset State.reset.digest where
  buflen_le := by decide
  f1_zero := rfl
  f0_final := rfl
  fresh _ := rfl
  nn_range h := absurd rfl h
  digest_tail h := nomatch h

/-- B2_INIT checks OUTLEN, and a pending key is a full block (R118). -/
theorem engineInv_b2Start {cfg : B2Config} (legal : cfg.legal = true) (key : Vector Byte 64)
    (salt pers : Vector Byte 16) (digest : Vector Byte 64) : EngineInv (b2Start cfg key salt pers) digest where
  buflen_le := by
    simp only [b2Start]
    split <;> decide
  f1_zero := rfl
  f0_final := rfl
  fresh h := nomatch h
  nn_range _ := by
    simp only [B2Config.legal, Bool.and_eq_true, decide_eq_true_eq] at legal
    obtain ⟨⟨⟨outlen, -⟩, -⟩, -⟩ := legal
    exact outlen
  digest_tail h := nomatch h

/-- A full buffer is emptied before the byte is appended (R119). -/
theorem b2Absorb_buflen_le {b : Blake2bState} (h : b.buflen.toNat ≤ 128) (x : Byte) :
    (b2Absorb b x).buflen.toNat ≤ 128 := by
  by_cases hfull : b.buflen = 128#8
  · simp [b2Absorb, hfull]
  · have hlt : b.buflen.toNat ≠ 128 := fun e => hfull (BitVec.eq_of_toNat_eq e)
    simp only [b2Absorb, hfull, if_false, BitVec.toNat_add, BitVec.toNat_ofNat]
    omega

/-- Absorbing a byte leaves the two flags and the output length (R119). -/
theorem b2Absorb_keeps (b : Blake2bState) (x : Byte) :
    (b2Absorb b x).f0 = b.f0 ∧ (b2Absorb b x).f1 = b.f1 ∧ (b2Absorb b x).nn = b.nn := by
  unfold b2Absorb
  split <;> exact ⟨rfl, rfl, rfl⟩

theorem foldl_b2Absorb_buflen_le (xs : List Byte) {b : Blake2bState} (h : b.buflen.toNat ≤ 128) :
    (xs.foldl b2Absorb b).buflen.toNat ≤ 128 := by
  induction xs generalizing b with
  | nil => exact h
  | cons x xs ih => exact ih (b2Absorb_buflen_le h x)

theorem foldl_b2Absorb_keeps (xs : List Byte) (b : Blake2bState) :
    (xs.foldl b2Absorb b).f0 = b.f0 ∧ (xs.foldl b2Absorb b).f1 = b.f1 ∧ (xs.foldl b2Absorb b).nn = b.nn := by
  induction xs generalizing b with
  | nil => exact ⟨rfl, rfl, rfl⟩
  | cons x xs ih =>
    obtain ⟨f0, f1, nn⟩ := b2Absorb_keeps b x
    obtain ⟨f0', f1', nn'⟩ := ih (b2Absorb b x)
    exact ⟨f0'.trans f0, f1'.trans f1, nn'.trans nn⟩

/-- B2_UPDATE starts and ends in a state that is neither fresh nor final (R119). -/
theorem EngineInv.b2AbsorbAll {b : Blake2bState} {digest : Vector Byte 64} (h : EngineInv b digest)
    (accepting : b.engine.accepting = true) (xs : List Byte) : EngineInv (b2AbsorbAll b xs) digest := by
  obtain ⟨initialised, notFinal⟩ := (EngineState.accepting_iff b.engine).mp accepting
  obtain ⟨f0, f1, nn⟩ := foldl_b2Absorb_keeps xs b
  exact {
    buflen_le := foldl_b2Absorb_buflen_le xs h.buflen_le
    f1_zero := f1.trans h.f1_zero
    f0_final := f0.trans (h.f0_final.trans (if_neg notFinal))
    fresh := fun hu => nomatch hu
    nn_range := fun _ => nn ▸ h.nn_range initialised
    digest_tail := fun hf => nomatch hf }

theorem byteAt_digestOf_of_ge (b : Blake2bState) {k : Nat} (hk : b.nn.toNat ≤ k) :
    byteAt (digestOf b) k = 0#8 := by
  by_cases h : k < 64
  · rw [digestOf, byteAt_ofFn _ h, if_neg (Nat.not_lt.mpr hk)]
  · exact byteAt_of_ge _ (by omega)

/-- B2_FINAL sets F0 and writes DIGEST together with the final state (R120). -/
theorem EngineInv.b2Finish {b : Blake2bState} {digest : Vector Byte 64} (h : EngineInv b digest)
    (accepting : b.engine.accepting = true) : EngineInv (b2Finish b) (digestOf (b2Finish b)) where
  buflen_le := h.buflen_le
  f1_zero := h.f1_zero
  f0_final := rfl
  fresh hu := nomatch hu
  nn_range _ := h.nn_range ((EngineState.accepting_iff b.engine).mp accepting).1
  digest_tail _ _ hk := byteAt_digestOf_of_ge _ hk

/-! ### Commands keep the invariant -/

/-- EXPANDED[32..63] is the public key it was made from (R123). -/
theorem byteAt_expandKey_upper (seed pk : Vector Byte 32) {k : Nat} (hk : k < 32) :
    byteAt (expandKey seed pk) (32 + k) = byteAt pk k := by
  rw [expandKey, byteAt_ofFn _ (by omega)]
  simp

theorem CommandWrites.engineInv {s t : State} {i : Instr} (h : CommandWrites s i t)
    (hs : EngineInv s.b2 s.digest) : EngineInv t.b2 t.digest := by
  cases h with
  | start legal => exact engineInv_b2Start legal _ _ _ _
  | absorb xs accepting => exact hs.b2AbsorbAll accepting xs
  | digest accepting => exact hs.b2Finish accepting
  | registers | sign | output | scalar | keyPair | nothing => exact hs

theorem CommandWrites.expanded_key {s t : State} {i : Instr} (h : CommandWrites s i t)
    (hs : ∀ k, k < 32 → byteAt s.expanded (32 + k) = byteAt s.pubkey k) :
    ∀ k, k < 32 → byteAt t.expanded (32 + k) = byteAt t.pubkey k := by
  cases h with
  | keyPair pk => exact fun _ hk => byteAt_expandKey_upper s.seed pk hk
  | registers | sign | output | scalar | start | absorb | digest | nothing => exact hs

/-- A completion makes the sequencer idle, so it asks nothing of DONE and ERR. -/
theorem complete_inv {s : State} (engine : EngineInv s.b2 s.digest)
    (key : ∀ k, k < 32 → byteAt s.expanded (32 + k) = byteAt s.pubkey k)
    (released : s.env.resetPin = false) (c : ErrorCode) : (s.complete c).Inv :=
  EngineInv.inv engine (fun busy => nomatch busy) key released

theorem exec_inv {s t : State} {i : Instr} (h : s.Inv) (released : s.env.resetPin = false)
    (hexec : exec i s = .next t) : t.Inv := by
  obtain ⟨c, herror⟩ | ⟨u, hok, hw⟩ := exec_cases i s
  · cases hexec.symm.trans herror
    exact complete_inv h.engineInv h.expanded_key released c
  · cases hexec.symm.trans hok
    have hpin : u.env.resetPin = false := by rw [hw.sameHostRegisters.env, released]
    exact complete_inv (hw.engineInv h.engineInv) (hw.expanded_key h.expanded_key) hpin .none

/-! ### The host's moves keep the invariant -/

/-- The host side's record is free but for the level of the reset input. -/
theorem State.Inv.withEnv {s : State} (h : s.Inv) {e : HostSide} (pin : e.resetPin = s.env.resetPin) :
    ({ s with env := e } : State).Inv where
  buflen_le := h.buflen_le
  f1_zero := h.f1_zero
  f0_final := h.f0_final
  fresh := h.fresh
  nn_range := h.nn_range
  digest_tail := h.digest_tail
  busy_clean := h.busy_clean
  expanded_key := h.expanded_key
  held_in_reset held := congrArg (fun u : State => { u with env := e }) (h.held_in_reset (pin ▸ held))

/-- The reset values satisfy the invariant under any host side. -/
theorem reset_withEnv_inv (e : HostSide) : ({ State.reset with env := e } : State).Inv where
  buflen_le := engineInv_reset.buflen_le
  f1_zero := engineInv_reset.f1_zero
  f0_final := engineInv_reset.f0_final
  fresh := engineInv_reset.fresh
  nn_range := engineInv_reset.nn_range
  digest_tail := engineInv_reset.digest_tail
  busy_clean busy := nomatch busy
  expanded_key k _ := by
    show byteAt (zeroBytes 64) (32 + k) = byteAt (zeroBytes 32) k
    simp
  held_in_reset _ := rfl

/-- Settles O14: the host side right after reset is one of those `reset_withEnv_inv` admits. -/
theorem resetMeetsTheInvariant : Obligations.ResetMeetsTheInvariant := reset_withEnv_inv HostSide.initial

theorem busRead_inv {s : State} (h : s.Inv) (a : Offset) : (s.busRead a).Inv := by
  obtain hread | hread := busRead_cases s a
  · exact hread ▸ h.withEnv rfl
  · exact hread ▸ h.withEnv rfl

/-- A write out of reset that leaves the engine, the digest, the key pair and the host side keeps the invariant if
what it leaves in DONE and ERR is what a busy sequencer allows. -/
theorem State.Inv.ofFrame {s t : State} (h : s.Inv) (released : s.env.resetPin = false)
    (busy : t.phase = .busy → t.done = false ∧ t.err = .none) (b2 : t.b2 = s.b2 := by dsimp)
    (digest : t.digest = s.digest := by dsimp) (expanded : t.expanded = s.expanded := by dsimp)
    (pubkey : t.pubkey = s.pubkey := by dsimp) (env : t.env = s.env := by dsimp) : t.Inv :=
  EngineInv.inv (by rw [b2, digest]; exact h.engineInv) busy
    (by rw [expanded, pubkey]; exact h.expanded_key) (by rw [env, released])

theorem writeStatus_inv {s : State} (h : s.Inv) (released : s.env.resetPin = false) (w : Word) :
    (s.writeStatus w).Inv := by
  refine h.ofFrame released fun busy => ?_
  obtain ⟨done, err⟩ := h.busy_clean busy
  exact ⟨by simp [done], err⟩

theorem writeCtrl_inv {s : State} (h : s.Inv) (released : s.env.resetPin = false) (w : Word) :
    (s.writeCtrl w).Inv := by
  unfold State.writeCtrl
  split
  · exact reset_withEnv_inv s.env
  · exact h.ofFrame released h.busy_clean

theorem writeByteWord_inv {s : State} (h : s.Inv) (released : s.env.resetPin = false) (r : ByteReg) (m : Nat)
    (w : Word) : (s.writeByteWord r m w).Inv := by
  unfold State.writeByteWord
  cases r with
  | key | salt | pers | data | scalar | seed => exact h.ofFrame released h.busy_clean
  | digest | pubkey | expanded | out32 => exact h

theorem writeFr_inv {s : State} (h : s.Inv) (released : s.env.resetPin = false) (n : Nat) (f : FieldElement) :
    (s.writeFr n f).Inv :=
  h.ofFrame released (by simpa using h.busy_clean)

theorem writeLoc_inv {s : State} (h : s.Inv) (released : s.env.resetPin = false) (l : Loc) (w : Word) :
    (s.writeLoc l w).Inv := by
  unfold State.writeLoc
  cases l with
  | ctrl => exact writeCtrl_inv h released w
  | status => exact writeStatus_inv h released w
  | cmd => exact h.ofFrame released fun _ => ⟨s.accept_done w, s.accept_err w⟩
  | bytes r m => exact writeByteWord_inv h released r m w
  | limb r i => exact writeFr_inv h released r _
  | b2cfg | b2len | seedlen => exact h.ofFrame released h.busy_clean
  | id | result | hash | counter | flag0 | flag1 | buflen | nn | buffer | reserved => exact h

theorem busWrite_inv {s : State} (h : s.Inv) (a : Offset) (w : Word) : (s.busWrite a w).Inv := by
  obtain ⟨-, hw⟩ | ⟨released, -, -, hw⟩ | ⟨released, -, hw⟩ := busWrite_cases s a w
  · rwa [hw]
  · rw [hw]
    exact h.ofFrame released h.busy_clean
  · rw [hw]
    exact writeLoc_inv h released _ w

theorem releaseReset_inv {s : State} (h : s.Inv) : s.releaseReset.Inv := by
  unfold State.releaseReset
  split
  · exact reset_withEnv_inv _
  · exact h

theorem hostAct_inv {s : State} (h : s.Inv) (a : HostAction) : (s.hostAct a).Inv := by
  cases a with
  | read addr => exact busRead_inv h addr
  | write addr w => exact busWrite_inv h addr w
  | assertReset => exact reset_withEnv_inv _
  | releaseReset => exact releaseReset_inv h

/-! ### Every step keeps the invariant -/

/-- Settles O15: the move used up is the host side's, and each thing a step can then do keeps the invariant. -/
theorem stepKeepsTheInvariant : Obligations.StepKeepsTheInvariant := by
  intro s t h hstep
  obtain ⟨ms, u, hmoves, hcases⟩ := step_cases s
  have hu : u.Inv := hmoves ▸ h.withEnv rfl
  obtain ⟨a, hhost⟩ | hwait | ⟨released, ⟨i, hexec⟩ | hillegal⟩ := hcases
  · cases hstep.symm.trans hhost
    exact hostAct_inv hu a
  · cases hstep.symm.trans hwait
    exact hu
  · exact exec_inv hu released (hexec.symm.trans hstep)
  · cases hstep.symm.trans hillegal
    exact complete_inv hu.engineInv hu.expanded_key released .illegalCommand

end Sys2Proof.Machine
end

section
/-! SUPPORT. STATUS and CTRL bit by bit, and what the window reads after reset. -/

namespace Sys2Proof.Machine

/-! ### STATUS and CTRL -/

/-- STATUS bit by bit: its three flags, and the fields above them (R26). -/
theorem statusWord_getLsbD (s : State) (k : Nat) : s.statusWord.getLsbD k =
    if k = 0 then s.busy else if k = 1 then s.done else if k = 2 then s.ovr
    else (0#22 ++ s.b2.engine.code ++ s.err.code ++ 0#1).getLsbD (k - 3) := by
  unfold State.statusWord
  change BitVec.getLsbD (w := 22 + 2 + 4 + 1 + 1 + 1 + 1) _ k = _
  match k with
  | 0 | 1 | 2 => simp only [BitVec.getLsbD_append]; simp
  | k + 3 => simp only [BitVec.getLsbD_append, Nat.sub_sub]; simp

/-- Bit 3 of STATUS is reserved (R26). -/
theorem statusWord_bit_three (s : State) : s.statusWord.getLsbD 3 = false := by
  rw [statusWord_getLsbD, BitVec.getLsbD_append]
  simp

/-- ERR is bits 7:4 of STATUS, above four fields of one bit (R26). -/
theorem statusWord_err (s : State) : s.statusWord.extractLsb' 4 4 = s.err.code := by
  unfold State.statusWord
  change BitVec.extractLsb' (n := 22 + 2 + 4 + 1 + 1 + 1 + 1) 4 4 _ = _
  iterate 4 rw [BitVec.extractLsb'_append_eq_of_le (by decide)]
  exact BitVec.extractLsb'_append_eq_right

/-- B2ST is bits 9:8 of STATUS, above ERR (R26). -/
theorem statusWord_engine (s : State) : s.statusWord.extractLsb' 8 2 = s.b2.engine.code := by
  unfold State.statusWord
  change BitVec.extractLsb' (n := 22 + 2 + 4 + 1 + 1 + 1 + 1) 8 2 _ = _
  iterate 5 rw [BitVec.extractLsb'_append_eq_of_le (by decide)]
  exact BitVec.extractLsb'_append_eq_right

/-- Bits 31:10 of STATUS, above B2ST, are reserved (R26). -/
theorem statusWord_reserved (s : State) : s.statusWord.extractLsb' 10 22 = 0#22 := by
  unfold State.statusWord
  change BitVec.extractLsb' (n := 22 + 2 + 4 + 1 + 1 + 1 + 1) 10 22 _ = _
  iterate 6 rw [BitVec.extractLsb'_append_eq_of_le (by decide)]
  simp

@[simp] theorem writeStatus_busy (s : State) (w : Word) : (s.writeStatus w).busy = s.busy := rfl

/-- The mask of DONE and OVR has no bit above them. -/
theorem getLsbD_six_of_ge {k : Nat} (hk : 3 ≤ k) : (0x6#32).getLsbD k = false := by
  rw [show (0x6#32) = (0x6#3).setWidth 32 from rfl, BitVec.getLsbD_setWidth, BitVec.getLsbD_of_ge _ _ hk]
  simp

/-- A write of STATUS clears DONE and OVR where 1 is written, and no other bit (R26). -/
theorem writeStatus_statusWord (s : State) (w : Word) :
    (s.writeStatus w).statusWord = s.statusWord &&& ~~~(w &&& 0x6#32) := by
  refine BitVec.eq_of_getLsbD_eq fun k hk => ?_
  rw [BitVec.getLsbD_and, BitVec.getLsbD_not, BitVec.getLsbD_and, statusWord_getLsbD, statusWord_getLsbD]
  match k with
  | 0 | 1 | 2 => simp
  | k + 3 =>
    rw [getLsbD_six_of_ge (by omega)]
    simp [hk]

/-- CTRL holds IE in bit 0 (R25). -/
theorem ctrlWord_ie (s : State) : s.ctrlWord.getLsbD 0 = s.ie := by
  cases h : s.ie <;> simp [State.ctrlWord, h]

/-- SRST and the reserved bits of CTRL read 0 (R25). -/
theorem ctrlWord_reserved (s : State) : s.ctrlWord.extractLsb' 1 31 = 0#31 :=
  BitVec.extractLsb'_append_eq_left

/-- Settles O24: each clause is a field of STATUS or CTRL, read at its place. -/
theorem statusBitsAndWriteOneToClear : Obligations.StatusBitsAndWriteOneToClear := by
  intro s w
  have hstatus : locOf 0x0008#13 = .status := by decide
  have hctrl : locOf 0x0004#13 = .ctrl := by decide
  refine ⟨by rw [hstatus]; rfl, statusWord_getLsbD s 0, statusWord_getLsbD s 1, statusWord_getLsbD s 2,
    statusWord_bit_three s, ?_, ?_, statusWord_reserved s, writeStatus_statusWord s w, rfl, by rw [hctrl]; rfl,
    ctrlWord_ie s, ctrlWord_reserved s⟩
  · rw [statusWord_err]
    cases s.err <;> rfl
  · rw [statusWord_engine]
    cases s.b2.engine <;> rfl

/-! ### The window after reset -/

/-- Zero bytes make the bus word 0 (R41). -/
@[simp] theorem busWord_zeroBytes (n m : Nat) : busWord (zeroBytes n) m = 0#32 := by
  simp [busWord]

@[simp] theorem limb_zero (i : Nat) : FieldElement.zero.limb i = 0#32 := by
  unfold FieldElement.limb
  split <;> rfl

@[simp] theorem readFr_reset (n : Nat) : State.reset.readFr n = FieldElement.zero := by
  by_cases h : n < 32
  · rw [readFr_eq_getElem _ h]
    simp [State.reset]
  · exact readFr_of_ge _ (by omega)

theorem wideWord_zero (n m : Nat) : wideWord (0#n) m = 0#32 := by
  simp [wideWord]

theorem reset_hashWord (i : Nat) : State.reset.b2.h.getD i 0#64 = 0#64 := by
  by_cases h : i < 8 <;> simp [State.reset, Blake2bState.reset, Vector.getD, h]

/-- Every word of a byte register is 0 after reset (R36). -/
theorem reset_byteWord (r : ByteReg) (m : Nat) : State.reset.byteWord r m = 0#32 := by
  cases r <;> exact busWord_zeroBytes _ m

/-- Settles O29: the table holds at every location, so at the location of every offset. -/
theorem resetStateIsTheTable : Obligations.ResetStateIsTheTable := by
  refine ⟨fun a => ?_, rfl, rfl, rfl⟩
  cases locOf a with
  | bytes r m => exact reset_byteWord r m
  | hash i half => exact (congrArg (wideWord · half) (reset_hashWord i)).trans (wideWord_zero 64 half)
  | counter m | flag0 m | flag1 m => exact wideWord_zero _ m
  | buffer m => exact busWord_zeroBytes 128 m
  | limb r i => simp [State.readLoc]
  | id | ctrl | status | cmd | result | b2cfg | b2len | seedlen | buflen | nn | reserved => rfl

end Sys2Proof.Machine
end

section
/-! SUPPORT. The address map, offset by offset and row by row (R38 to R40, R46), and how many words a register has
there. -/

namespace Sys2Proof.Machine

/-! ### Offsets -/

/-- Address bits [1:0] are ignored (R46): an address below the window's size reaches the word it lies in. -/
theorem locOf_ofNat {n : Nat} (h : n < 8192) : locOf (BitVec.ofNat 13 n) = locAt (4 * (n / 4)) := by
  simp [locOf, Nat.mod_eq_of_lt h]

/-- The word at `base + 4m`, for a base that is a multiple of 4. -/
theorem locOf_word {base m : Nat} (aligned : base % 4 = 0) (h : base + 4 * m < 8192) :
    locOf (BitVec.ofNat 13 (base + 4 * m)) = locAt (base + 4 * m) := by
  rw [locOf_ofNat h]
  congr 1
  omega

/-- Bits [12:2] of an address alone decide its location (R46). -/
theorem locOf_congr {a a' : Offset} (h : a.extractLsb' 2 11 = a'.extractLsb' 2 11) : locOf a = locOf a' := by
  have word (b : Offset) : (b.extractLsb' 2 11).toNat = b.toNat / 4 := by
    have := b.isLt
    rw [BitVec.extractLsb'_toNat, Nat.shiftRight_eq_div_pow]
    omega
  unfold locOf
  rw [← word a, ← word a', h]

/-! ### The rows of R39 -/

/-- The word m of a row is where the map has it: the row's offsets are the interval of one branch of `locAt`. -/
theorem locAt_row : ∀ row ∈ windowTable, ∀ m, m < row.2.1 → locAt (row.1 + 4 * m) = row.2.2 m := by
  simp only [windowTable, List.forall_mem_cons]
  repeat' apply And.intro
  rotate_right
  · exact fun row h => absurd h List.not_mem_nil
  all_goals
    intro m hm
    simp (disch := omega) only [locAt, ↓if_neg, ↓if_pos]
  all_goals
    simp only [Loc.bytes.injEq, Loc.hash.injEq, Loc.counter.injEq, Loc.flag0.injEq, Loc.flag1.injEq,
      Loc.buffer.injEq, true_and]
    omega

/-- The word m of the row at `base`, by the row's place in the table, counted from 0. -/
theorem locOf_row (k : Nat) {base n m : Nat} {loc : Nat → Loc} (h : windowTable[k]? = some (base, n, loc))
    (hm : m < n) : locOf (BitVec.ofNat 13 (base + 4 * m)) = loc m := by
  have row := List.mem_of_getElem? h
  have inside : ∀ row ∈ windowTable, row.1 % 4 = 0 ∧ row.1 + 4 * row.2.1 ≤ 8192 := by decide
  obtain ⟨aligned, bound⟩ := inside _ row
  rw [locOf_word aligned (by dsimp only at bound; omega)]
  exact locAt_row _ row m hm

/-- Settles O16: each row is an interval of offsets that `locAt` sends to its words. -/
theorem windowFollowsTheAddressMap : Obligations.WindowFollowsTheAddressMap := by
  refine ⟨fun row h m hm => ?_, by decide⟩
  obtain ⟨k, hk⟩ := List.mem_iff_getElem?.mp h
  exact locOf_row k hk hm

/-! ### The field registers' words (R40) -/

/-- The slots of 0x40 bytes from 0x1000 on: ten limbs, then reserved words. -/
theorem locAt_slot {a : Nat} (low : 0x1000 ≤ a) (high : a < 0x1800) : locAt a =
    if (a - 0x1000) % 0x40 < 0x28 then .limb ((a - 0x1000) / 0x40) ((a - 0x1000) % 0x40 / 4) else .reserved := by
  simp (disch := omega) only [locAt, ↓if_neg, if_pos]

theorem locOf_limb {r i : Nat} (hr : r < 32) (hi : i < 10) :
    locOf (BitVec.ofNat 13 (0x1000 + 0x40 * r + 4 * i)) = .limb r i := by
  rw [locOf_word (by omega) (by omega), locAt_slot (by omega) (by omega), if_pos (by omega)]
  simp only [Loc.limb.injEq]
  omega

theorem locOf_slot_reserved {r o : Nat} (hr : r < 32) (low : 0x28 ≤ o) (high : o < 0x40) :
    locOf (BitVec.ofNat 13 (0x1000 + 0x40 * r + o)) = .reserved := by
  rw [locOf_ofNat (by omega), locAt_slot (by omega) (by omega), if_neg (by omega)]

/-! ### The words that exist -/

/-- The number of words of a byte register in the window (R39). -/
def ByteReg.words : ByteReg → Nat
  | .key => 16
  | .salt => 4
  | .pers => 4
  | .data => 32
  | .digest => 16
  | .scalar => 8
  | .seed => 8
  | .pubkey => 8
  | .expanded => 16
  | .out32 => 8

/-- The location is a word that its register has. -/
def Loc.Mapped : Loc → Prop
  | .bytes r m => m < r.words
  | .limb r i => r < 32 ∧ i < 10
  | _ => True

theorem mapped_ite (c : Prop) [Decidable c] (l l' : Loc) :
    (if c then l else l').Mapped ↔ (c → l.Mapped) ∧ (¬c → l'.Mapped) := by
  split <;> simp [*]

/-- The window reaches only words that exist: the branch's interval bounds the word's number. -/
theorem locAt_mapped (a : Nat) : (locAt a).Mapped := by
  simp only [locAt, mapped_ite]
  simp only [Loc.Mapped, ByteReg.words, implies_true, true_and, and_true]
  omega

theorem locOf_mapped (a : Offset) : (locOf a).Mapped := locAt_mapped _

end Sys2Proof.Machine
end

section
/-! SUPPORT. Words of bytes and words of fields: a byte register word by word (R41), the two halves of a hash word
(R42), and the fields of B2CFG, B2LEN and SEEDLEN (R29 to R31). -/

namespace Sys2Proof.Machine

/-! ### A byte register, word by word (R41) -/

/-- A word is its four bytes, high byte first. -/
theorem word_eq_bytes (w : Word) :
    w.extractLsb' 24 8 ++ w.extractLsb' 16 8 ++ w.extractLsb' 8 8 ++ w.extractLsb' 0 8 = w := by
  simp only [BitVec.extractLsb'_append_extractLsb'_eq_extractLsb']
  exact BitVec.extractLsb'_eq_self

/-- Byte j of word m is the register's byte 4m + j. -/
theorem busWord_byte {n : Nat} (x : Vector Byte n) (m : Nat) {j : Nat} (hj : j < 4) :
    (busWord x m).extractLsb' (8 * j) 8 = byteAt x (4 * m + j) := by
  unfold busWord
  match j with
  | 0 => exact BitVec.extractLsb'_append_eq_right
  | 1 => exact (BitVec.extractLsb'_append_eq_of_le (by decide)).trans BitVec.extractLsb'_append_eq_right
  | 2 =>
    iterate 2 rw [BitVec.extractLsb'_append_eq_of_le (by decide)]
    exact BitVec.extractLsb'_append_eq_right
  | 3 =>
    iterate 3 rw [BitVec.extractLsb'_append_eq_of_le (by decide)]
    exact BitVec.extractLsb'_eq_self

theorem byteAt_setBusWord_same {n : Nat} (x : Vector Byte n) {m j : Nat} (w : Word) (hj : j < 4) (h : 4 * m + j < n) :
    byteAt (setBusWord x m w) (4 * m + j) = w.extractLsb' (8 * j) 8 := by
  unfold setBusWord
  match j with
  | 0 => simp (disch := omega) only [Nat.add_zero, byteAt_set_same, byteAt_set_other]
  | 1 | 2 | 3 => simp (disch := omega) only [byteAt_set_same, byteAt_set_other]

theorem byteAt_setBusWord_other {n : Nat} (x : Vector Byte n) {m k : Nat} (w : Word) (h : k / 4 ≠ m) :
    byteAt (setBusWord x m w) k = byteAt x k := by
  unfold setBusWord
  iterate 4 rw [byteAt_set_other _ _ (by omega)]

theorem busWord_setBusWord_same {n : Nat} (x : Vector Byte n) {m : Nat} (w : Word) (h : 4 * m + 3 < n) :
    busWord (setBusWord x m w) m = w := by
  have byte (j : Nat) (hj : j < 4) := byteAt_setBusWord_same x w hj (show 4 * m + j < n by omega)
  rw [busWord, byte 3 (by decide), byte 2 (by decide), byte 1 (by decide), show 4 * m = 4 * m + 0 from rfl,
    byte 0 (by decide)]
  exact word_eq_bytes w

theorem busWord_setBusWord_other {n : Nat} (x : Vector Byte n) {m m' : Nat} (w : Word) (h : m' ≠ m) :
    busWord (setBusWord x m w) m' = busWord x m' := by
  unfold busWord
  iterate 4 rw [byteAt_setBusWord_other _ _ (by omega)]

/-! ### Halves of a 64-bit value (R42) -/

/-- The two words of a 64-bit value are its halves, the low one first. -/
theorem wideWord_append (x : Word64) : wideWord x 1 ++ wideWord x 0 = x :=
  (BitVec.extractLsb'_append_extractLsb'_eq_extractLsb' rfl).trans BitVec.extractLsb'_eq_self

/-! ### Configuration words (R28 to R31) -/

/-- A write under a mask: the bits of the mask come from `w`, the others stay those of `old`. -/
theorem merge_all (w old : Word) : w &&& 0xFFFFFFFF#32 ||| old &&& ~~~0xFFFFFFFF#32 = w := by
  rw [show 0xFFFFFFFF#32 = BitVec.allOnes 32 from rfl, BitVec.and_allOnes, BitVec.not_allOnes, BitVec.and_zero,
    BitVec.or_zero]

theorem merge_none (w old : Word) : w &&& 0#32 ||| old &&& ~~~0#32 = old := by
  rw [BitVec.not_zero, BitVec.and_allOnes, BitVec.and_zero, BitVec.zero_or]

/-- A word that a mask leaves as it is has no bit in a disjoint mask. -/
theorem and_eq_zero_of_masked {x m m' : Word} (h : x = x &&& m) (disjoint : m &&& m' = 0#32) : x &&& m' = 0#32 := by
  rw [h, BitVec.and_assoc, disjoint, BitVec.and_zero]

/-- A word is the four fields of B2CFG and the reserved bits between them. -/
theorem word_eq_b2cfg_fields (w : Word) :
    w.extractLsb' 29 3 ++ w.extractLsb' 24 5 ++ w.extractLsb' 21 3 ++ w.extractLsb' 16 5 ++ w.extractLsb' 15 1
      ++ w.extractLsb' 8 7 ++ w.extractLsb' 7 1 ++ w.extractLsb' 0 7 = w := by
  simp only [BitVec.extractLsb'_append_extractLsb'_eq_extractLsb']
  exact BitVec.extractLsb'_eq_self

/-- The mask of B2CFG's fields, on any fields (R29). -/
theorem b2cfg_fields_and (a c : BitVec 3) (p l : BitVec 5) (e g : BitVec 1) (k o : BitVec 7) :
    (a ++ p ++ c ++ l ++ e ++ k ++ g ++ o) &&& (0#3 ++ BitVec.allOnes 5 ++ 0#3 ++ BitVec.allOnes 5 ++ 0#1
      ++ BitVec.allOnes 7 ++ 0#1 ++ BitVec.allOnes 7) = 0#3 ++ p ++ 0#3 ++ l ++ 0#1 ++ k ++ 0#1 ++ o := by
  simp only [BitVec.and_append, BitVec.and_allOnes, BitVec.and_zero]

/-- The stored bits of B2CFG are its fields (R29). -/
theorem b2cfg_ofWord_word (w : Word) : (B2Config.ofWord w).word = w &&& 0x1F1F7F7F#32 :=
  (b2cfg_fields_and ..).symm.trans (congrArg (· &&& 0x1F1F7F7F#32) (word_eq_b2cfg_fields w))

/-- OUTLEN, KEYLEN, SALTLEN and PERSLEN are at bits 0, 8, 16 and 24 of B2CFG (R29). -/
theorem b2cfg_word_fields (c : B2Config) : c.word.extractLsb' 0 7 = c.outlen ∧ c.word.extractLsb' 8 7 = c.keylen
    ∧ c.word.extractLsb' 16 5 = c.saltlen ∧ c.word.extractLsb' 24 5 = c.perslen := by
  unfold B2Config.word
  change BitVec.extractLsb' (n := 3 + 5 + 3 + 5 + 1 + 7 + 1 + 7) 0 7 _ = _
    ∧ BitVec.extractLsb' (n := 3 + 5 + 3 + 5 + 1 + 7 + 1 + 7) 8 7 _ = _
    ∧ BitVec.extractLsb' (n := 3 + 5 + 3 + 5 + 1 + 7 + 1 + 7) 16 5 _ = _
    ∧ BitVec.extractLsb' (n := 3 + 5 + 3 + 5 + 1 + 7 + 1 + 7) 24 5 _ = _
  refine ⟨BitVec.extractLsb'_append_eq_right, ?_, ?_, ?_⟩
  · iterate 2 rw [BitVec.extractLsb'_append_eq_of_le (by decide)]
    exact BitVec.extractLsb'_append_eq_right
  · iterate 4 rw [BitVec.extractLsb'_append_eq_of_le (by decide)]
    exact BitVec.extractLsb'_append_eq_right
  · iterate 6 rw [BitVec.extractLsb'_append_eq_of_le (by decide)]
    exact BitVec.extractLsb'_append_eq_right

/-- The reserved bits of B2CFG read 0 (R29). -/
theorem b2cfg_word_reserved (c : B2Config) : c.word &&& 0xE0E08080#32 = 0#32 := by
  obtain ⟨outlen, keylen, saltlen, perslen⟩ := b2cfg_word_fields c
  have back : B2Config.ofWord c.word = c := by rw [B2Config.ofWord, outlen, keylen, saltlen, perslen]
  have masked := b2cfg_ofWord_word c.word
  rw [back] at masked
  exact and_eq_zero_of_masked masked (by decide)

/-- The stored bits of B2LEN and of SEEDLEN are the low byte (R30, R31). -/
theorem lowByte_setWidth (w : Word) : (w.extractLsb' 0 8).setWidth 32 = w &&& 0x000000FF#32 := by
  have mask : w.toNat &&& 0xFF = w.toNat % 2 ^ 8 := Nat.and_two_pow_sub_one_eq_mod w.toNat 8
  apply BitVec.eq_of_toNat_eq
  rw [BitVec.toNat_setWidth, BitVec.extractLsb'_toNat, BitVec.toNat_and, Nat.shiftRight_zero]
  exact (Nat.mod_eq_of_lt (by omega)).trans mask.symm

/-- A byte leaves bits 31:8 of its word 0 (R30, R31). -/
theorem setWidth_byte_reserved (x : Byte) : x.setWidth 32 &&& 0xFFFFFF00#32 = 0#32 := by
  have masked := lowByte_setWidth (x.setWidth 32)
  rw [BitVec.extractLsb'_setWidth_of_le (by decide), BitVec.extractLsb'_eq_self] at masked
  exact and_eq_zero_of_masked masked (by decide)

/-- The reserved bits of CTRL, and SRST, read 0 (R25). -/
theorem ctrlWord_and_reserved (s : State) : s.ctrlWord &&& 0xFFFFFFFE#32 = 0#32 := by
  rw [State.ctrlWord]
  cases s.ie <;> rfl

/-- The mask of STATUS's reserved bits, on any fields (R26). -/
theorem status_fields_and (e : BitVec 2) (c : BitVec 4) (o d b : BitVec 1) :
    (0#22 ++ e ++ c ++ 0#1 ++ o ++ d ++ b)
      &&& (BitVec.allOnes 22 ++ 0#2 ++ 0#4 ++ BitVec.allOnes 1 ++ 0#1 ++ 0#1 ++ 0#1)
      = 0#22 ++ 0#2 ++ 0#4 ++ 0#1 ++ 0#1 ++ 0#1 ++ 0#1 := by
  simp only [BitVec.and_append, BitVec.zero_and, BitVec.and_zero]

/-- The reserved bits of STATUS read 0 (R26). -/
theorem statusWord_and_reserved (s : State) : s.statusWord &&& 0xFFFFFC08#32 = 0#32 :=
  (status_fields_and ..).trans rfl

end Sys2Proof.Machine
end

section
/-! SUPPORT. What a performed write leaves at its own location and at every other, and the statements of 20_memory.md on
the window. -/

namespace Sys2Proof.Machine

/-! ### A write to a read-only or reserved location (R43) -/

theorem writeLoc_readOnly (s : State) {l : Loc} (w : Word) (readOnly : storedBits l = 0#32) (hctrl : l ≠ .ctrl)
    (hstatus : l ≠ .status) : s.writeLoc l w = s := by
  cases l with
  | ctrl => exact absurd rfl hctrl
  | status => exact absurd rfl hstatus
  | cmd | b2cfg | b2len | seedlen | limb => exact absurd readOnly (by simp [storedBits])
  | bytes r m =>
    cases r with
    | key | salt | pers | data | scalar | seed => exact absurd readOnly (by simp [storedBits])
    | digest | pubkey | expanded | out32 => rfl
  | id | result | hash | counter | flag0 | flag1 | buflen | nn | buffer | reserved => rfl

/-! ### A write and the location it writes -/

/-- A word of a RW byte register reads back the word written, a word of a read-only one is left. -/
theorem byteWord_writeByteWord_same (s : State) {r : ByteReg} {m : Nat} (w : Word) (hm : m < r.words) :
    (s.writeByteWord r m w).byteWord r m
      = w &&& storedBits (.bytes r m) ||| s.byteWord r m &&& ~~~storedBits (.bytes r m) := by
  cases r with
  | key | salt | pers | data | scalar | seed =>
    simp only [ByteReg.words] at hm
    exact (busWord_setBusWord_same _ w (by omega)).trans (merge_all w _).symm
  | digest | pubkey | expanded | out32 => exact (merge_none w _).symm

theorem limb_writeLimb_same (s : State) {r i : Nat} (w : Word) (hr : r < 32) (hi : i < 10) :
    ((s.writeFr r ((s.readFr r).setLimb i w)).readFr r).limb i = w := by
  rw [readFr_writeFr_same _ _ hr, limb_setLimb_same _ _ hi]

/-- A performed write stores the location's bits and keeps its others (the access column of R39). -/
theorem readLoc_writeLoc_same (s : State) {l : Loc} (w : Word) (hl : l.Mapped) (hctrl : l ≠ .ctrl)
    (hstatus : l ≠ .status) :
    (s.writeLoc l w).readLoc l = w &&& storedBits l ||| s.readLoc l &&& ~~~storedBits l := by
  cases l with
  | ctrl => exact absurd rfl hctrl
  | status => exact absurd rfl hstatus
  | bytes r m => exact byteWord_writeByteWord_same s w hl
  | limb r i =>
    obtain ⟨hr, hi⟩ := hl
    exact (limb_writeLimb_same s w hr hi).trans (merge_all w _).symm
  | cmd => exact (merge_all w _).symm
  | b2cfg =>
    have keeps : s.b2cfg.word &&& ~~~0x1F1F7F7F#32 = 0#32 := b2cfg_word_reserved s.b2cfg
    simp only [State.readLoc, State.writeLoc, storedBits, b2cfg_ofWord_word, keeps, BitVec.or_zero]
  | b2len =>
    have keeps : s.b2len.setWidth 32 &&& ~~~0x000000FF#32 = 0#32 := setWidth_byte_reserved s.b2len
    simp only [State.readLoc, State.writeLoc, storedBits, lowByte_setWidth, keeps, BitVec.or_zero]
  | seedlen =>
    have keeps : s.seedlen.setWidth 32 &&& ~~~0x000000FF#32 = 0#32 := setWidth_byte_reserved s.seedlen
    simp only [State.readLoc, State.writeLoc, storedBits, lowByte_setWidth, keeps, BitVec.or_zero]
  | id | result | hash | counter | flag0 | flag1 | buflen | nn | buffer | reserved => exact (merge_none w _).symm

/-! ### A write and the other locations -/

/-- A write of a byte register's word touches the six RW byte registers at most (R20). -/
theorem writeByteWord_eq (s : State) (r : ByteReg) (m : Nat) (w : Word) : ∃ key salt pers data scalar seed,
    s.writeByteWord r m w
      = { s with key := key, salt := salt, pers := pers, data := data, scalar := scalar, seed := seed } := by
  cases r <;> exact ⟨_, _, _, _, _, _, rfl⟩

/-- No two byte registers share a byte (R20). -/
theorem byteWord_writeByteWord_other (s : State) {r r' : ByteReg} (m m' : Nat) (w : Word) (h : r' ≠ r) :
    (s.writeByteWord r m w).byteWord r' m' = s.byteWord r' m' := by
  cases r <;> cases r' <;> first | exact absurd rfl h | simp only [State.writeByteWord, State.byteWord]

/-- A write of a byte register's word shows in that word alone (R41). -/
theorem readLoc_writeByteWord_other (s : State) {r : ByteReg} {m : Nat} (w : Word) {l : Loc} (h : l ≠ .bytes r m) :
    (s.writeByteWord r m w).readLoc l = s.readLoc l := by
  cases l with
  | bytes r' m' =>
    by_cases same : r' = r
    · have word : m' ≠ m := fun hm => h (by rw [same, hm])
      subst same
      cases r' with
      | key | salt | pers | data | scalar | seed => exact busWord_setBusWord_other _ w word
      | digest | pubkey | expanded | out32 => rfl
    · exact byteWord_writeByteWord_other s m m' w same
  | _ =>
    obtain ⟨key, salt, pers, data, scalar, seed, heq⟩ := writeByteWord_eq s r m w
    rw [heq]
    rfl

theorem limb_writeLimb_other (s : State) {r i r' i' : Nat} (w : Word) (h : ¬(r' = r ∧ i' = i)) :
    ((s.writeFr r ((s.readFr r).setLimb i w)).readFr r').limb i' = (s.readFr r').limb i' := by
  by_cases same : r' = r
  · subst same
    by_cases hr : r' < 32
    · rw [readFr_writeFr_same _ _ hr, limb_setLimb_other _ _ fun hi => h ⟨rfl, hi⟩]
    · rw [readFr_of_ge _ (by omega), readFr_of_ge _ (by omega)]
  · rw [readFr_writeFr_other _ _ same]

/-- A performed write of a data or configuration location shows at no other location (R40, R41, R48). -/
theorem readLoc_writeLoc_other (s : State) {l l' : Loc} (w : Word) (hctrl : l ≠ .ctrl) (hstatus : l ≠ .status)
    (hcmd : l ≠ .cmd) (h : l' ≠ l) : (s.writeLoc l w).readLoc l' = s.readLoc l' := by
  cases l with
  | ctrl => exact absurd rfl hctrl
  | status => exact absurd rfl hstatus
  | cmd => exact absurd rfl hcmd
  | bytes r m => exact readLoc_writeByteWord_other s w h
  | limb r i =>
    cases l' with
    | limb r' i' => exact limb_writeLimb_other s w fun ⟨hr, hi⟩ => h (by rw [hr, hi])
    | _ => rfl
  | b2cfg =>
    cases l' with
    | b2cfg => exact absurd rfl h
    | _ => rfl
  | b2len =>
    cases l' with
    | b2len => exact absurd rfl h
    | _ => rfl
  | seedlen =>
    cases l' with
    | seedlen => exact absurd rfl h
    | _ => rfl
  | id | result | hash | counter | flag0 | flag1 | buflen | nn | buffer | reserved => rfl

/-! ### Host accesses of the idle block -/

/-- The host side shows nowhere in the window. -/
theorem readLoc_withEnv (s : State) (e : HostSide) (l : Loc) :
    ({ s with env := e } : State).readLoc l = s.readLoc l := by
  cases l with
  | bytes r m => cases r <;> rfl
  | _ => rfl

/-- While idle and out of reset a read returns the location's value (R38). -/
theorem busRead_idle (s : State) (idle : s.phase = .idle) (released : s.env.resetPin = false) (a : Offset) :
    s.busRead a = s.returnData (s.readLoc (locOf a)) := by
  simp [State.busRead, State.inFlightMayWrite, State.busy, idle, released]

theorem readLoc_row (s : State) (k : Nat) {base n m : Nat} {loc : Nat → Loc}
    (row : windowTable[k]? = some (base, n, loc)) (hm : m < n) :
    s.readLoc (locOf (BitVec.ofNat 13 (base + 4 * m))) = s.readLoc (loc m) := by
  rw [locOf_row k row hm]

theorem busWrite_row (s : State) (idle : s.phase = .idle) (released : s.env.resetPin = false) (w : Word) (k : Nat)
    {base n m : Nat} {loc : Nat → Loc} (row : windowTable[k]? = some (base, n, loc)) (hm : m < n) :
    s.busWrite (BitVec.ofNat 13 (base + 4 * m)) w = s.writeLoc (loc m) w := by
  rw [busWrite_idle s idle released, locOf_row k row hm]

/-! ### The statements -/

/-- Settles O17: the host's move is the head's action, and a read touches the host side alone. -/
theorem addressLowBitsAreIgnoredAndReadsChangeNothing :
    Obligations.AddressLowBitsAreIgnoredAndReadsChangeNothing := by
  refine ⟨fun a a' h => locOf_congr h, fun s ms => ?_⟩
  have act (x : HostAction) (h : s.env.moves = .host x :: ms) := step_of_host (nextTurn_of_host h)
  refine ⟨act, fun a w => act (.write a w), fun a h idle released => ?_, fun a h => ?_, act .assertReset,
    act .releaseReset⟩
  · rw [act _ h]
    exact congrArg _ ((busRead_idle { s with env := { s.env with moves := ms } } idle released a).trans
      (congrArg (State.returnData _) (readLoc_withEnv s _ _)))
  · rw [act _ h, State.hostAct]
    obtain hany | hdata := busRead_cases { s with env := { s.env with moves := ms } } a
    · exact ⟨_, _, congrArg _ hany⟩
    · exact ⟨_, _, congrArg _ hdata⟩

/-- Settles O18: read back by the kind of the location; each field at its place of the word. -/
theorem windowReadsBackWhatWasStored : Obligations.WindowReadsBackWhatWasStored := by
  refine ⟨fun s a w idle released hctrl hstatus => ?_, fun s => ?_⟩
  · rw [busWrite_idle s idle released]
    exact readLoc_writeLoc_same s w (locOf_mapped a) hctrl hstatus
  · rw [show locOf 0x0014#13 = .b2cfg by decide, show locOf 0x0010#13 = .result by decide,
      show locOf 0x0018#13 = .b2len by decide, show locOf 0x001C#13 = .seedlen by decide,
      show locOf 0x0360#13 = .buflen by decide, show locOf 0x0364#13 = .nn by decide]
    obtain ⟨outlen, keylen, saltlen, perslen⟩ := b2cfg_word_fields s.b2cfg
    have narrow {n : Nat} {x : BitVec n} (h : n ≤ 32) : (x.setWidth 32).toNat = x.toNat :=
      BitVec.toNat_setWidth_of_le h
    refine ⟨outlen, keylen, saltlen, perslen, b2cfg_word_reserved s.b2cfg, ?_, narrow (by decide), narrow (by decide),
      narrow (by decide), narrow (by decide)⟩
    rw [State.readLoc, State.resultWord]
    cases s.neg <;> rfl

/-- Settles O19: the write is performed, and shows at its own location alone. -/
theorem windowWriteLeavesOtherLocations : Obligations.WindowWriteLeavesOtherLocations := by
  intro s a w l idle released hctrl hstatus hcmd h
  rw [busWrite_idle s idle released]
  exact readLoc_writeLoc_other s w hctrl hstatus hcmd h

/-- Settles O20: an ignored write is no write, in reset and out of it; the stored fields leave the reserved bits 0. -/
theorem reservedAndReadOnlyIgnoreWrites : Obligations.ReservedAndReadOnlyIgnoreWrites := by
  refine ⟨fun s a w idle readOnly hctrl hstatus => ?_, fun s w => ⟨b2cfg_word_reserved _, setWidth_byte_reserved _,
    setWidth_byte_reserved _, ctrlWord_and_reserved _, statusWord_and_reserved _⟩, fun s => rfl⟩
  obtain ⟨-, held⟩ | ⟨-, busy, -⟩ | ⟨-, -, performed⟩ := busWrite_cases s a w
  · exact held
  · exact absurd ((busy_iff s).mp busy) (by simp [idle])
  · exact performed.trans (writeLoc_readOnly s w readOnly hctrl hstatus)

/-- Settles O21: the limb's word is in its slot, and `writeLoc` there sets the limb of that register alone. -/
theorem fieldRegisterLimbsAreMapped : Obligations.FieldRegisterLimbsAreMapped := by
  refine ⟨fun r i => locOf_limb, fun r o => locOf_slot_reserved, fun s r i w hr hi idle released => ?_⟩
  rw [busWrite_idle s idle released, locOf_limb hr hi]
  refine ⟨rfl, rfl, fun r' i' _ _ => ?_⟩
  split
  · next same =>
    obtain ⟨rfl, rfl⟩ := same
    exact limb_writeLimb_same s w hr hi
  · next other => exact limb_writeLimb_other s w other

/-- Settles O22: the packing is `busWord`'s and `setBusWord`'s, and the offsets are the registers' rows
in the table (KEY is row 9, OUT32 row 19, BUF row 27). -/
theorem byteRegistersArePackedLittleEndian : Obligations.ByteRegistersArePackedLittleEndian := by
  refine ⟨fun n x => ⟨fun k _ => ?_, fun m w k hk => ?_⟩, fun s m => ?_, fun s m w idle released => ?_⟩
  · exact (busWord_byte x (k / 4) (Nat.mod_lt k (by decide))).trans (by rw [Nat.div_add_mod])
  · split
    · next hm =>
      subst hm
      have byte := byteAt_setBusWord_same x w (Nat.mod_lt k (by decide)) (by rwa [Nat.div_add_mod])
      rwa [Nat.div_add_mod] at byte
    · next hm => exact byteAt_setBusWord_other x w hm
  · have reads := readLoc_row s
    exact ⟨reads 9 rfl, reads 10 rfl, reads 11 rfl, reads 13 rfl, reads 14 rfl, reads 15 rfl, reads 16 rfl,
      reads 17 rfl, reads 18 rfl, reads 19 rfl, reads 27 rfl⟩
  · have writes := busWrite_row s idle released w
    exact ⟨writes 9 rfl, writes 10 rfl, writes 11 rfl, writes 13 rfl, writes 15 rfl, writes 16 rfl⟩

/-- The two words of hash word i, at `0x300 + 8i` (R42). -/
theorem locOf_hash {i half : Nat} (hi : i < 8) (hhalf : half < 2) :
    locOf (BitVec.ofNat 13 (0x0300 + 4 * (2 * i + half))) = .hash i half := by
  rw [locOf_row 20 rfl (by omega)]
  simp only [Loc.hash.injEq]
  omega

/-- Settles O23: each offset is a word of its row, and the two words of a 64-bit value are its halves. -/
theorem wideHashStateIsLowWordFirst : Obligations.WideHashStateIsLowWordFirst := by
  intro s
  refine ⟨fun i => ?_, fun m hm => ?_, ?_, ?_⟩
  · rw [show 0x0304 + 8 * i.val = 0x0300 + 4 * (2 * i.val + 1) by omega,
      show 0x0300 + 8 * i.val = 0x0300 + 4 * (2 * i.val + 0) by omega, locOf_hash i.isLt (by decide),
      locOf_hash i.isLt (by decide)]
    exact (wideWord_append _).trans (by simp [Vector.getD])
  · rw [locOf_row 21 rfl hm]
    rfl
  · rw [show locOf 0x0354#13 = .flag0 1 by decide, show locOf 0x0350#13 = .flag0 0 by decide]
    exact wideWord_append _
  · rw [show locOf 0x035C#13 = .flag1 1 by decide, show locOf 0x0358#13 = .flag1 0 by decide]
    exact wideWord_append _

end Sys2Proof.Machine
end

section
/-! SUPPORT. When a word decodes to a command: exactly when its used bits are those of the command's assembled word
(R56 to R62).  The round trip and the ignored fields of 30_encoding.md are read off this one equivalence; after it,
which words are illegal and what becomes of them. -/

namespace Sys2Proof

open Machine
open Laws.EncodeFields (fields_encode)

/-! ### A word under the mask of a format -/

theorem fieldsOf_injective : Function.Injective fieldsOf :=
  Function.LeftInverse.injective wordOf_fieldsOf

theorem fieldsOf_and (w m : Word) :
    fieldsOf (w &&& m) =
      ⟨(fieldsOf w).rsv &&& (fieldsOf m).rsv, (fieldsOf w).c &&& (fieldsOf m).c, (fieldsOf w).rb &&& (fieldsOf m).rb,
        (fieldsOf w).ra &&& (fieldsOf m).ra, (fieldsOf w).rd &&& (fieldsOf m).rd,
        (fieldsOf w).opc &&& (fieldsOf m).opc⟩ := by
  simp only [fieldsOf, BitVec.extractLsb'_and]

/-- The six masks of `usedBits`, field by field: each field is wholly used or not at all (R57). -/
theorem fieldsOf_formatMasks :
    fieldsOf 0xFF0000FF#32 = ⟨.allOnes 8, 0#1, 0#5, 0#5, 0#5, .allOnes 8⟩
      ∧ fieldsOf (0xFF0000FF#32 ||| 0x00001F00#32) = ⟨.allOnes 8, 0#1, 0#5, 0#5, .allOnes 5, .allOnes 8⟩
      ∧ fieldsOf (0xFF0000FF#32 ||| 0x0003E000#32) = ⟨.allOnes 8, 0#1, 0#5, .allOnes 5, 0#5, .allOnes 8⟩
      ∧ fieldsOf (0xFF0000FF#32 ||| 0x00001F00#32 ||| 0x0003E000#32)
          = ⟨.allOnes 8, 0#1, 0#5, .allOnes 5, .allOnes 5, .allOnes 8⟩
      ∧ fieldsOf (0xFF0000FF#32 ||| 0x00001F00#32 ||| 0x0003E000#32 ||| 0x007C0000#32)
          = ⟨.allOnes 8, 0#1, .allOnes 5, .allOnes 5, .allOnes 5, .allOnes 8⟩
      ∧ fieldsOf (0xFF0000FF#32 ||| 0x00001F00#32 ||| 0x0003E000#32 ||| 0x007C0000#32 ||| 0x00800000#32)
          = ⟨.allOnes 8, .allOnes 1, .allOnes 5, .allOnes 5, .allOnes 5, .allOnes 8⟩ := by
  decide

/-- The assembled word of a command sets no bit that its format does not use (R62). -/
theorem encode_and_usedBits (i : Instr) : encode i &&& usedBits i = encode i := by
  apply fieldsOf_injective
  cases i <;>
    simp only [usedBits, fieldsOf_and, fields_encode, fieldsOf_formatMasks, fieldsOfInstr, BitVec.and_allOnes,
      BitVec.zero_and]

/-! ### The condition bit and its field (R84) -/

theorem ofBool_beq_one (b : BitVec 1) : BitVec.ofBool (b == 1#1) = b := by
  revert b
  decide

theorem beq_one_ofBool (c : Bool) : (BitVec.ofBool c == 1#1) = c := by
  cases c <;> rfl

/-! ### Decoding is exact -/

theorem decode_eq_ok_iff_decodeOpcode {w : Word} {i : Instr} :
    decode w = .ok i ↔ (fieldsOf w).rsv = 0#8 ∧ decodeOpcode (fieldsOf w) = .ok i := by
  unfold decode
  split <;> simp [*]

theorem opc_of_decodeOpcode {f : Fields} {i : Instr} (legal : decodeOpcode f = .ok i) : f.opc = opcodeOf i := by
  unfold decodeOpcode at legal
  split at legal <;> cases legal <;> exact BitVec.eq_of_toNat_eq ‹_›

/-- The digit of GE_SELECT is the one operand that need not fit its field, and one read from five bits does (R58). -/
theorem wf_of_decodeOpcode {f : Fields} {i : Instr} (legal : decodeOpcode f = .ok i) : i.wf = true := by
  unfold decodeOpcode at legal
  split at legal <;> cases legal
  case h_23 =>
    exact Bool.and_eq_true_iff.mpr ⟨decide_eq_true (BitVec.le_toInt f.rb),
      decide_eq_true (Int.le_of_lt_add_one BitVec.toInt_lt)⟩
  all_goals rfl

/-- Row by row of the opcode map, the used fields of a legal word are those of the command's assembled word. -/
theorem usedFields_of_decode {w : Word} {i : Instr} (h : decode w = .ok i) :
    fieldsOf (w &&& usedBits i) = fieldsOfInstr i := by
  obtain ⟨rsv, legal⟩ := decode_eq_ok_iff_decodeOpcode.mp h
  have opc := opc_of_decodeOpcode legal
  unfold decodeOpcode at legal
  split at legal <;> cases legal <;>
    simp only [usedBits, fieldsOf_and, fieldsOf_formatMasks, fieldsOfInstr, BitVec.and_allOnes, BitVec.and_zero, rsv,
      opc, fieldOf_regOf, ofInt_digitOf, ofBool_beq_one]

/-- Row by row of the commands, a word with the used fields of the assembled word decodes to the command. -/
theorem decode_of_usedFields {w : Word} {i : Instr} (wf : i.wf = true)
    (used : fieldsOf (w &&& usedBits i) = fieldsOfInstr i) : decode w = .ok i := by
  rw [decode_eq_ok_iff_decodeOpcode]
  cases i <;>
    simp only [usedBits, fieldsOf_and, fieldsOf_formatMasks, fieldsOfInstr, BitVec.and_allOnes, BitVec.and_zero,
      opcodeOf, Fields.mk.injEq] at used <;>
    obtain ⟨rsv, c, rb, ra, rd, opc⟩ := used
  case geSelect dig =>
    obtain ⟨low, high⟩ : -16 ≤ dig ∧ dig ≤ 15 := by simpa [Instr.wf] using wf
    simp [decodeOpcode, *, regOf_fieldOf, digitOf_ofInt]
  all_goals simp [decodeOpcode, *, regOf_fieldOf, beq_one_ofBool]

/-- A word decodes to a command exactly when the command is well formed and the word's used bits are those of the
command's assembled word (R57, R62). -/
theorem decode_eq_ok_iff_usedBits (w : Word) (i : Instr) :
    decode w = .ok i ↔ i.wf = true ∧ w &&& usedBits i = encode i := by
  constructor
  · intro h
    exact ⟨wf_of_decodeOpcode (decode_eq_ok_iff_decodeOpcode.mp h).2,
      fieldsOf_injective ((usedFields_of_decode h).trans (fields_encode i).symm)⟩
  · rintro ⟨wf, used⟩
    exact decode_of_usedFields wf (used ▸ fields_encode i)

/-- Settles O1: the assembled word is its own used bits. -/
theorem decodeOfEncodeIsTheCommand : Obligations.DecodeOfEncodeIsTheCommand :=
  fun i wf => (decode_eq_ok_iff_usedBits (encode i) i).mpr ⟨wf, encode_and_usedBits i⟩

/-- Settles O3: decoding looks at the used bits alone. -/
theorem unusedFieldsAreIgnored : Obligations.UnusedFieldsAreIgnored := by
  intro w w' i legal agree
  obtain ⟨wf, used⟩ := (decode_eq_ok_iff_usedBits w i).mp legal
  exact (decode_eq_ok_iff_usedBits w' i).mpr ⟨wf, agree.trans used⟩

/-- Settles O2: the words are closed terms, so the decoder evaluates on each. -/
theorem specWordsDecodeToTheirCommands : Obligations.SpecWordsDecodeToTheirCommands := by
  unfold Obligations.SpecWordsDecodeToTheirCommands
  decide

/-! ### Illegal words (R61) -/

theorem opcodeOf_mem_assignedOpcodes (i : Instr) : (opcodeOf i).toNat ∈ assignedOpcodes := by
  cases i <;> simp [opcodeOf, assignedOpcodes]

/-- The opcode map's last row, the error, is reached by no opcode of the table. -/
theorem exists_decodeOpcode_of_mem {f : Fields} (assigned : f.opc.toNat ∈ assignedOpcodes) :
    ∃ i, decodeOpcode f = .ok i := by
  unfold decodeOpcode
  split
  case h_30 => simp_all [assignedOpcodes]
  all_goals exact ⟨_, rfl⟩

theorem exists_decode_iff (w : Word) :
    (∃ i, decode w = .ok i) ↔ (fieldsOf w).rsv = 0#8 ∧ (fieldsOf w).opc.toNat ∈ assignedOpcodes := by
  simp only [decode_eq_ok_iff_decodeOpcode, exists_and_left]
  refine and_congr_right fun _ => ⟨?_, exists_decodeOpcode_of_mem⟩
  rintro ⟨i, legal⟩
  exact opc_of_decodeOpcode legal ▸ opcodeOf_mem_assignedOpcodes i

theorem exists_decode_error {w : Word}
    (illegal : (fieldsOf w).rsv ≠ 0#8 ∨ (fieldsOf w).opc.toNat ∉ assignedOpcodes) : ∃ e, decode w = .error e := by
  cases hdecode : decode w with
  | ok i =>
    obtain ⟨rsv, assigned⟩ := (exists_decode_iff w).mp ⟨i, hdecode⟩
    exact (illegal.elim (· rsv) (· assigned)).elim
  | error e => exact ⟨e, rfl⟩

theorem core_run_succ {s t : State} (h : step s = .next t) (k : Nat) : core.run (k + 1) s = core.run k t := by
  have hcore : core.step s = .next t := h
  simp only [Host.Core.run, hcore]

/-- The sequencer's move on an illegal word in flight reports ILLEGAL_COMMAND and changes nothing else of the block. -/
theorem step_completes_illegal {s : State} {ms : List Move} {e : DecodeError} (hms : s.env.moves = .sequencer :: ms)
    (busy : s.phase = .busy) (released : s.env.resetPin = false) (undecodable : decode s.inflight = .error e) :
    step s = .next { s with phase := .idle, done := true, err := .illegalCommand,
                            env := { s.env with moves := ms } } :=
  (step_eq_completeIllegal (u := { s with env := { s.env with moves := ms } }) (nextTurn_of_sequencer hms) busy released
    undecodable).trans rfl

/-- Settles O4: the accept takes any word, and the sequencer's move then completes a word that does not decode. -/
theorem illegalWordIsAcceptedAndChangesOnlyErr : Obligations.IllegalWordIsAcceptedAndChangesOnlyErr := by
  refine ⟨exists_decode_iff, fun w s idle released illegal => ?_⟩
  have accepts := cmdWriteAcceptsTheWord
    { s with env := { s.env with moves := [.host (.write 0x000C#13 w), .sequencer] } } w [.sequencer] idle released rfl
  obtain ⟨e, undecodable⟩ := exists_decode_error illegal
  refine ⟨core_run_succ accepts 0, (core_run_succ accepts 1).trans (core_run_succ ?_ 0)⟩
  exact step_completes_illegal rfl rfl released undecodable

end Sys2Proof
end

section
/-! SUPPORT. Field commands that touch no carry: the state every field command leaves, the wraps of R8 on bit vectors,
and the constants, the moves and the limb-wise arithmetic (spec/40_field.md §3). -/

namespace Sys2Proof.Machine

/-! ### What a command with one destination register leaves -/

/-- A command whose result is FR[rd] <- f completes with that register and STATUS changed, and nothing else (R34). -/
theorem finish_writeFr (s : State) (rd : Reg) (f : FieldElement) :
    finish s (.ok (s.writeFr rd.val f)) =
      .next { s with fr := s.fr.set rd.val f, err := .none, phase := .idle, done := true } := by
  have hset : s.fr.setIfInBounds rd.val f = s.fr.set rd.val f := by
    apply Vector.ext
    simp [Vector.getElem_set, Vector.getElem_setIfInBounds]
  rw [← hset]
  rfl

theorem readFr_reg (s : State) (r : Reg) : s.readFr r.val = s.fr[r.val] := readFr_eq_getElem s r.isLt

/-! ### The wraps of R8 -/

theorem s32_eq_bmod (v : Int) : s32 v = v.bmod (2 ^ 32) := by
  simp only [s32, Int.bmod_def]
  omega

theorem s64_eq_bmod (v : Int) : s64 v = v.bmod (2 ^ 64) := by
  simp only [s64, Int.bmod_def]
  omega

theorem toInt_add_eq_s32 (a b : Limb) : (a + b).toInt = s32 (a.toInt + b.toInt) := by
  rw [BitVec.toInt_add, s32_eq_bmod]

theorem toInt_sub_eq_s32 (a b : Limb) : (a - b).toInt = s32 (a.toInt - b.toInt) := by
  rw [BitVec.toInt_sub, s32_eq_bmod]

theorem toInt_neg_eq_s32 (a : Limb) : (-a).toInt = s32 (-a.toInt) := by
  rw [BitVec.toInt_neg, s32_eq_bmod]

/-! ### Limb-wise functions -/

theorem limb_zipLimbs (op : Limb → Limb → Limb) (f g : FieldElement) {i : Nat} (h : i < 10) :
    (zipLimbs op f g).limb i = op (f.limb i) (g.limb i) := by
  interval_cases i <;> rfl

theorem int_feAdd (f g : FieldElement) {i : Nat} (h : i < 10) : (feAdd f g).int i = s32 (f.int i + g.int i) := by
  rw [FieldElement.int, feAdd, limb_zipLimbs _ f g h, toInt_add_eq_s32]
  rfl

theorem int_feSub (f g : FieldElement) {i : Nat} (h : i < 10) : (feSub f g).int i = s32 (f.int i - g.int i) := by
  rw [FieldElement.int, feSub, limb_zipLimbs _ f g h, toInt_sub_eq_s32]
  rfl

theorem int_feNeg (f : FieldElement) {i : Nat} (h : i < 10) : (feNeg f).int i = s32 (-f.int i) := by
  rw [FieldElement.int, feNeg, limb_zipLimbs _ f f h, toInt_neg_eq_s32]
  rfl

/-- Settles O31: each command writes its limb-wise function of the sources, whose limbs are the wraps. -/
theorem addSubNegAreLimbWise : Obligations.AddSubNegAreLimbWise := fun s rd ra rb =>
  ⟨⟨_, finish_writeFr s rd (feAdd (s.readFr ra.val) (s.readFr rb.val)), fun _ => int_feAdd _ _⟩,
    ⟨_, finish_writeFr s rd (feSub (s.readFr ra.val) (s.readFr rb.val)), fun _ => int_feSub _ _⟩,
    ⟨_, finish_writeFr s rd (feNeg (s.readFr ra.val)), fun _ => int_feNeg _⟩⟩

/-! ### The conditional move (R84) -/

@[simp] theorem cmovMask_false : cmovMask false = 0#32 := by decide

@[simp] theorem cmovMask_true : cmovMask true = BitVec.allOnes 32 := by decide

@[simp] theorem feCmov_false (f g : FieldElement) : feCmov f g false = f :=
  FieldElement.ext_limb fun i h => by
    rw [feCmov, limb_zipLimbs _ f g h, cmovMask_false, BitVec.and_zero, BitVec.xor_zero]

@[simp] theorem feCmov_true (f g : FieldElement) : feCmov f g true = g :=
  FieldElement.ext_limb fun i h => by
    rw [feCmov, limb_zipLimbs _ f g h, cmovMask_true, BitVec.and_allOnes, ← BitVec.xor_assoc, BitVec.xor_self,
      BitVec.zero_xor]

/-- Settles O30: the constants and the copy are written as they stand, and the mask keeps one source. -/
theorem constantsAndMovesWriteTheirRegister : Obligations.ConstantsAndMovesWriteTheirRegister := by
  intro s rd ra rb
  refine ⟨finish_writeFr s rd feZero, finish_writeFr s rd feOne, ?_, ?_, ?_⟩
  · rw [← readFr_reg]
    exact finish_writeFr s rd (s.readFr ra.val)
  · rw [← readFr_reg, ← feCmov_false (s.readFr ra.val) (s.readFr rb.val)]
    exact finish_writeFr s rd _
  · rw [← readFr_reg, ← feCmov_true (s.readFr ra.val) (s.readFr rb.val)]
    exact finish_writeFr s rd _

end Sys2Proof.Machine
end

section
/-! SUPPORT. The bit-vector loops of the field unit are those of R69 and R70 on the integers the words stand for: one
lemma per loop body, and the loops by folding. -/

namespace Sys2Proof.Machine

/-! ### One operation of the field unit and its wrap -/

theorem toInt_shiftLeft_eq_bmod {n : Nat} (x : BitVec n) (w : Nat) :
    (x <<< w).toInt = (x.toInt * 2 ^ w).bmod (2 ^ n) := by
  rw [BitVec.toInt_shiftLeft, BitVec.toInt_eq_toNat_bmod, Int.bmod_mul_bmod, Nat.shiftLeft_eq]
  push_cast
  rfl

theorem toInt_sshiftRight_eq_div {n : Nat} (x : BitVec n) (w : Nat) :
    (x.sshiftRight w).toInt = x.toInt / 2 ^ w := by
  rw [BitVec.toInt_sshiftRight, Int.shiftRight_eq_div_pow]
  norm_cast

theorem toInt_ofNat_mul_eq_bmod {n : Nat} (x : BitVec n) (m : Nat) :
    (BitVec.ofNat n m * x).toInt = (m * x.toInt).bmod (2 ^ n) := by
  rw [BitVec.toInt_mul, BitVec.toInt_ofNat', Int.bmod_mul_bmod]

theorem toInt_add_eq_s64 (a b : Word64) : (a + b).toInt = s64 (a.toInt + b.toInt) := by
  rw [BitVec.toInt_add, s64_eq_bmod]

theorem toInt_sub_eq_s64 (a b : Word64) : (a - b).toInt = s64 (a.toInt - b.toInt) := by
  rw [BitVec.toInt_sub, s64_eq_bmod]

theorem toInt_shiftLeft_eq_s64 (a : Word64) (w : Nat) : (a <<< w).toInt = s64 (a.toInt * 2 ^ w) := by
  rw [toInt_shiftLeft_eq_bmod, s64_eq_bmod]

theorem toInt_ofNat_mul_eq_s64 (m : Nat) (a : Word64) : (BitVec.ofNat 64 m * a).toInt = s64 (m * a.toInt) := by
  rw [toInt_ofNat_mul_eq_bmod, s64_eq_bmod]

theorem toInt_shiftLeft_eq_s32 (a : Limb) (w : Nat) : (a <<< w).toInt = s32 (a.toInt * 2 ^ w) := by
  rw [toInt_shiftLeft_eq_bmod, s32_eq_bmod]

theorem toInt_ofNat_mul_eq_s32 (m : Nat) (a : Limb) : (BitVec.ofNat 32 m * a).toInt = s32 (m * a.toInt) := by
  rw [toInt_ofNat_mul_eq_bmod, s32_eq_bmod]

theorem limbWidth_cases (i : Nat) : limbWidth i = 26 ∨ limbWidth i = 25 := by
  unfold limbWidth
  split <;> simp

theorem mem_limbIndices {i : Nat} : i ∈ limbIndices ↔ i < 10 := by
  simp only [limbIndices, List.mem_cons, List.not_mem_nil, or_false]
  omega

/-! ### Ten sums as a list of integers -/

theorem Wide.get_set_same (h : Wide) {k : Nat} (v : Word64) (hk : k < 10) : (h.set k v).get k = v := by
  interval_cases k <;> rfl

theorem Wide.get_set_other (h : Wide) {k j : Nat} (v : Word64) (hj : j ≠ k) : (h.set k v).get j = h.get j := by
  unfold Wide.set
  split
  case h_11 => rfl
  all_goals
    unfold Wide.get
    split <;> trivial

/-- Two wide values with the same ten sums are the same. -/
theorem Wide.ext_get {g h : Wide} (heq : ∀ k, k < 10 → g.get k = h.get k) : g = h := by
  cases g
  cases h
  rw [Wide.mk.injEq]
  exact ⟨heq 0 (by decide), heq 1 (by decide), heq 2 (by decide), heq 3 (by decide), heq 4 (by decide),
    heq 5 (by decide), heq 6 (by decide), heq 7 (by decide), heq 8 (by decide), heq 9 (by decide)⟩

/-- The ten sums as the integers they stand for. -/
def Wide.ints (h : Wide) : List Int := limbIndices.map fun k => (h.get k).toInt

/-- The ten limbs as the integers they stand for. -/
def FieldElement.ints (f : FieldElement) : List Int := limbIndices.map f.int

theorem getD_map_limbIndices (u : Nat → Int) {k : Nat} (hk : k < 10) : (limbIndices.map u).getD k 0 = u k := by
  interval_cases k <;> rfl

theorem map_limbIndices_congr {u v : Nat → Int} (h : ∀ k, k < 10 → u k = v k) :
    limbIndices.map u = limbIndices.map v :=
  List.map_congr_left fun k hk => h k (mem_limbIndices.mp hk)

theorem set_map_limbIndices (u : Nat → Int) {k : Nat} (v : Int) (hk : k < 10) :
    (limbIndices.map u).set k v = limbIndices.map (Function.update u k v) := by
  interval_cases k <;> rfl

theorem Wide.getD_ints (h : Wide) {k : Nat} (hk : k < 10) : h.ints.getD k 0 = (h.get k).toInt :=
  getD_map_limbIndices _ hk

theorem FieldElement.getD_ints (f : FieldElement) {i : Nat} (hi : i < 10) : f.ints.getD i 0 = f.int i :=
  getD_map_limbIndices _ hi

theorem Wide.ints_set (h : Wide) {k : Nat} (v : Word64) (hk : k < 10) :
    (h.set k v).ints = h.ints.set k v.toInt := by
  rw [Wide.ints, Wide.ints, set_map_limbIndices _ _ hk]
  refine map_limbIndices_congr fun j _ => ?_
  by_cases hj : j = k
  · rw [hj, Wide.get_set_same h v hk, Function.update_self]
  · rw [Wide.get_set_other h v hj, Function.update_of_ne hj]

theorem FieldElement.ints_setLimb (f : FieldElement) {i : Nat} (v : Limb) (hi : i < 10) :
    (f.setLimb i v).ints = f.ints.set i v.toInt := by
  rw [FieldElement.ints, FieldElement.ints, set_map_limbIndices _ _ hi]
  refine map_limbIndices_congr fun j _ => ?_
  by_cases hj : j = i
  · rw [hj, FieldElement.int, limb_setLimb_same f v hi, Function.update_self]
  · rw [FieldElement.int, limb_setLimb_other f v hj, Function.update_of_ne hj, FieldElement.int]

/-- A list read through `r` follows a fold of steps that `r` commutes with. -/
theorem foldl_commutes {α β : Type} {r : α → β} {step : α → Nat → α} {body : β → Nat → β}
    (ks : List Nat) (commutes : ∀ a k, k ∈ ks → r (step a k) = body (r a) k) (a : α) :
    r (ks.foldl step a) = ks.foldl body (r a) := by
  induction ks generalizing a with
  | nil => rfl
  | cons k ks ih =>
    rw [List.foldl_cons, List.foldl_cons, ih (fun a k hk => commutes a k (List.mem_cons_of_mem _ hk)),
      commutes a k List.mem_cons_self]

/-! ### CARRY is R69's loop -/

theorem toInt_carryOut (h : Wide) (k : Nat) :
    (carryOut h k).toInt = s64 ((h.get k).toInt + 2 ^ (limbWidth k - 1)) / 2 ^ limbWidth k := by
  have hround : (BitVec.ofNat 64 (2 ^ (limbWidth k - 1))).toInt = 2 ^ (limbWidth k - 1) := by
    rcases limbWidth_cases k with hw | hw <;> rw [hw] <;> decide
  rw [carryOut, toInt_sshiftRight_eq_div, toInt_add_eq_s64, hround]

/-- One step of the chain is one pass of R69's loop body. -/
theorem ints_carryStep (h : Wide) {k : Nat} (hk : k < 10) : (carryStep h k).ints = carryBody h.ints k := by
  have hleaves : h.ints.set k (s64 (h.ints.getD k 0
      - s64 (s64 (h.ints.getD k 0 + 2 ^ (limbWidth k - 1)) / 2 ^ limbWidth k * 2 ^ limbWidth k)))
        = (h.set k (h.get k - carryOut h k <<< limbWidth k)).ints := by
    rw [Wide.ints_set h _ hk, toInt_sub_eq_s64, toInt_shiftLeft_eq_s64, toInt_carryOut, Wide.getD_ints h hk]
  simp only [carryStep, carryBody]
  rw [hleaves]
  by_cases h9 : k = 9
  · rw [if_pos h9, if_pos h9, Wide.ints_set _ _ (by decide), toInt_add_eq_s64, toInt_ofNat_mul_eq_s64, toInt_carryOut,
      Wide.getD_ints _ (by decide), Wide.getD_ints h hk]
    rfl
  · rw [if_neg h9, if_neg h9, Wide.ints_set _ _ (by omega), toInt_add_eq_s64, toInt_carryOut,
      Wide.getD_ints _ (by omega), Wide.getD_ints h hk]

theorem int_toLimbs (h : Wide) {i : Nat} (hi : i < 10) : h.toLimbs.int i = s32 (h.get i).toInt := by
  have hlimb : h.toLimbs.limb i = (h.get i).setWidth 32 := by
    interval_cases i <;> rfl
  rw [FieldElement.int, hlimb, s32_eq_bmod, BitVec.toInt_setWidth, BitVec.toInt_eq_toNat_bmod,
    Int.bmod_bmod_of_dvd (by decide)]

theorem int_carry (h : Wide) {i : Nat} (hi : i < 10) : (carry h).int i = (carryLoop h).getD i 0 := by
  have hfold : (carryOrder.foldl carryStep h).ints = carryOrder.foldl carryBody h.ints :=
    foldl_commutes carryOrder (fun a k hk => ints_carryStep a (by revert k; decide)) h
  have hloop : carryLoop h = (carryOrder.foldl carryStep h).ints.map s32 := by
    rw [hfold]
    rfl
  rw [carry, int_toLimbs _ hi, hloop, Wide.ints, List.map_map, getD_map_limbIndices _ hi]
  rfl

/-- What one step of the chain leaves in each sum. -/
theorem get_carryStep (h : Wide) {k : Nat} (hk : k < 10) (j : Nat) :
    (carryStep h k).get j =
      if j = k then h.get k - carryOut h k <<< limbWidth k
      else if k = 9 ∧ j = 0 then h.get 0 + 19#64 * carryOut h k
      else if j = k + 1 ∧ k ≠ 9 then h.get j + carryOut h k
      else h.get j := by
  simp only [carryStep]
  by_cases h9 : k = 9
  · subst h9
    rw [if_pos rfl]
    by_cases hj0 : j = 0
    · subst hj0
      rw [Wide.get_set_same _ _ (by decide), Wide.get_set_other _ _ (by decide), if_neg (by decide),
        if_pos ⟨rfl, rfl⟩]
    · rw [Wide.get_set_other _ _ hj0]
      by_cases hj : j = 9
      · rw [hj, Wide.get_set_same _ _ (by decide), if_pos rfl]
      · rw [Wide.get_set_other _ _ hj, if_neg hj, if_neg (by omega), if_neg (by omega)]
  · rw [if_neg h9]
    by_cases hnext : j = k + 1
    · subst hnext
      rw [Wide.get_set_same _ _ (by omega), Wide.get_set_other _ _ (by omega), if_neg (by omega), if_neg (by omega),
        if_pos ⟨rfl, h9⟩]
    · rw [Wide.get_set_other _ _ hnext]
      by_cases hj : j = k
      · rw [hj, Wide.get_set_same _ _ hk, if_pos rfl]
      · rw [Wide.get_set_other _ _ hj, if_neg hj, if_neg (by omega), if_neg (by omega)]

/-- Settles O33: the chain folds R69's body, and a step writes the two sums it moves the carry between. -/
theorem carryStepRoundsAndPropagates : Obligations.CarryStepRoundsAndPropagates := by
  refine ⟨fun h i hi => int_carry h hi, fun h k hk => ?_⟩
  intro c j hj
  rw [get_carryStep h hk j]
  have hnext : (j = k + 1 ∧ k ≠ 9) ↔ j = k + 1 := by omega
  simp only [hnext, apply_ite BitVec.toInt, toInt_sub_eq_s64, toInt_add_eq_s64, toInt_shiftLeft_eq_s64,
    toInt_ofNat_mul_eq_s64, toInt_carryOut]
  rfl

/-! ### REDUCE is R70's two loops -/

theorem ints_reduceCarryStep (h : FieldElement) {i : Nat} (hi : i < 10) :
    (reduceCarryStep h i).ints = reduceBody h.ints i := by
  have hleaves : h.ints.set i (s32 (h.ints.getD i 0 - s32 (h.ints.getD i 0 / 2 ^ limbWidth i * 2 ^ limbWidth i)))
      = (h.setLimb i (h.limb i - (h.limb i).sshiftRight (limbWidth i) <<< limbWidth i)).ints := by
    rw [FieldElement.ints_setLimb h _ hi, toInt_sub_eq_s32, toInt_shiftLeft_eq_s32, toInt_sshiftRight_eq_div,
      FieldElement.getD_ints h hi, FieldElement.int]
  simp only [reduceCarryStep, reduceBody]
  rw [hleaves]
  by_cases h9 : i < 9
  · rw [if_pos h9, if_pos h9, FieldElement.ints_setLimb _ _ (by omega), toInt_add_eq_s32, toInt_sshiftRight_eq_div,
      FieldElement.getD_ints _ (by omega), FieldElement.getD_ints h hi]
    rfl
  · rw [if_neg h9, if_neg h9]

theorem toInt_reduceQuotient (f : FieldElement) :
    (reduceQuotient f).toInt = limbIndices.foldl (fun q i => s32 (f.ints.getD i 0 + q) / 2 ^ limbWidth i)
      (s32 (s32 (19 * f.ints.getD 9 0) + 2 ^ 24) / 2 ^ 25) := by
  have hfirst : ((19#32 * f.l9 + BitVec.ofNat 32 (2 ^ 24)).sshiftRight 25).toInt
      = s32 (s32 (19 * f.ints.getD 9 0) + 2 ^ 24) / 2 ^ 25 := by
    rw [toInt_sshiftRight_eq_div, toInt_add_eq_s32, toInt_ofNat_mul_eq_s32]
    rfl
  rw [← hfirst]
  refine foldl_commutes (r := BitVec.toInt) limbIndices (fun q i hi => ?_) _
  rw [toInt_sshiftRight_eq_div, toInt_add_eq_s32, FieldElement.getD_ints f (mem_limbIndices.mp hi)]
  rfl

theorem ints_feReduce (f : FieldElement) : (feReduce f).ints = reduceLoop f := by
  have hstart : (f.setLimb 0 (f.l0 + 19#32 * reduceQuotient f)).ints
      = f.ints.set 0 (s32 (f.ints.getD 0 0 + s32 (19 * (reduceQuotient f).toInt))) := by
    rw [FieldElement.ints_setLimb f _ (by decide), toInt_add_eq_s32, toInt_ofNat_mul_eq_s32]
    rfl
  rw [feReduce, foldl_commutes limbIndices (fun h i hi => ints_reduceCarryStep h (mem_limbIndices.mp hi)), hstart,
    toInt_reduceQuotient]
  rfl

/-- Settles O36: both loops of R70 are folds that the integer reading commutes with. -/
theorem reduceIsTheTwoLoops : Obligations.ReduceIsTheTwoLoops := fun f i hi => by
  rw [← ints_feReduce, FieldElement.getD_ints _ hi]

end Sys2Proof.Machine
end

section
/-! SUPPORT. The carry chain on sums that do not overflow: every step keeps the value mod p, and a bound on each sum
is carried along with the sums themselves (R66, R69). -/

namespace Sys2Proof.Machine

/-! ### Values as sums over the limbs (R10) -/

theorem FieldElement.val_eq_sum (f : FieldElement) : f.val = ∑ i ∈ Finset.range 10, f.int i * 2 ^ limbPos i := by
  simp only [Finset.sum_range_succ, Finset.sum_range_zero, zero_add]
  change _ = f.l0.toInt * 2 ^ 0 + _ + _ + _ + _ + _ + _ + _ + _ + _
  rw [pow_zero, mul_one]
  rfl

/-- Σ h[k]·2^pos(k), the integer that ten sums stand for. -/
def Wide.val (h : Wide) : Int := ∑ k ∈ Finset.range 10, (h.get k).toInt * 2 ^ limbPos k

theorem s64_of_abs_lt {v : Int} (h : |v| < 2 ^ 63) : s64 v = v := by
  rw [abs_lt] at h
  unfold s64
  omega

theorem s32_of_abs_lt {v : Int} (h : |v| < 2 ^ 31) : s32 v = v := by
  rw [abs_lt] at h
  unfold s32
  omega

/-! ### One rounded carry -/

/-- The rounded carry out of the value x of a sum of width w, where nothing wraps (R69). -/
def roundedCarry (x : Int) (w : Nat) : Int := (x + 2 ^ (w - 1)) / 2 ^ w

/-- A rounded carry leaves at most half a unit of the next limb. -/
theorem abs_sub_roundedCarry_le (x : Int) {w : Nat} (hw : w = 26 ∨ w = 25) :
    |x - roundedCarry x w * 2 ^ w| ≤ 2 ^ (w - 1) := by
  rw [abs_le]
  rcases hw with rfl | rfl <;> simp only [roundedCarry] <;> omega

theorem abs_roundedCarry_le {x : Int} {w b : Nat} (hw : w = 26 ∨ w = 25) (hx : |x| ≤ b) :
    |roundedCarry x w| ≤ ((b + 2 ^ (w - 1)) / 2 ^ w : Nat) := by
  rw [abs_le] at hx ⊢
  rcases hw with rfl | rfl <;> simp only [roundedCarry] <;> omega

/-- The sum that the carry out of sum k enters. -/
def carryTarget (k : Nat) : Nat := if k = 9 then 0 else k + 1

/-- What the carry out of sum k is multiplied by: 2^255 ≡ 19 (mod p). -/
def carryFactor (k : Nat) : Nat := if k = 9 then 19 else 1

/-- The target's position is where the carry stood, up to the factor. -/
theorem carryTarget_pos {k : Nat} (hk : k < 10) :
    carryFactor k * 2 ^ limbPos (carryTarget k) ≡ 2 ^ limbWidth k * 2 ^ limbPos k [ZMOD fieldPrime] := by
  have : ∀ k < 10, (carryFactor k * 2 ^ limbPos (carryTarget k) : Int) % fieldPrime
      = 2 ^ limbWidth k * 2 ^ limbPos k % fieldPrime := by decide +kernel
  exact this k hk

/-! ### Bounds carried along the chain -/

/-- Every sum is at most `b k` in magnitude. -/
def Wide.Within (b : Nat → Nat) (h : Wide) : Prop := ∀ k, k < 10 → |(h.get k).toInt| ≤ b k

/-- The bounds after the carry out of sum k, from the bounds before it. -/
def carriedBound (b : Nat → Nat) (k j : Nat) : Nat :=
  if j = k then 2 ^ (limbWidth k - 1)
  else if j = carryTarget k then b j + carryFactor k * ((b k + 2 ^ (limbWidth k - 1)) / 2 ^ limbWidth k)
  else b j

/-- No operation of the step for sum k wraps in 64 bits. -/
def stepFits (b : Nat → Nat) (k : Nat) : Bool :=
  decide (k < 10 ∧ b k + 2 ^ (limbWidth k - 1) < 2 ^ 63 ∧ carriedBound b k (carryTarget k) < 2 ^ 63)

/-- No operation of a chain of steps wraps in 64 bits. -/
def chainFits (b : Nat → Nat) : List Nat → Bool
  | [] => true
  | k :: ks => stepFits b k && chainFits (carriedBound b k) ks

theorem stepFits_iff (b : Nat → Nat) (k : Nat) :
    stepFits b k = true ↔
      k < 10 ∧ b k + 2 ^ (limbWidth k - 1) < 2 ^ 63 ∧ carriedBound b k (carryTarget k) < 2 ^ 63 :=
  decide_eq_true_iff

theorem carryTarget_ne (k : Nat) : carryTarget k ≠ k := by
  unfold carryTarget
  split <;> omega

theorem carryTarget_lt {k : Nat} (hk : k < 10) : carryTarget k < 10 := by
  unfold carryTarget
  split <;> omega

theorem s64_add_s64 (a b : Int) : s64 (a + s64 b) = s64 (a + b) := by
  simp only [s64_eq_bmod, Int.add_bmod_bmod]

theorem toInt_get_carryStep_source (h : Wide) {k : Nat} (hk : k < 10) :
    ((carryStep h k).get k).toInt = s64 ((h.get k).toInt - s64 ((carryOut h k).toInt * 2 ^ limbWidth k)) := by
  rw [get_carryStep h hk, if_pos rfl, toInt_sub_eq_s64, toInt_shiftLeft_eq_s64]

theorem toInt_get_carryStep_target (h : Wide) {k : Nat} (hk : k < 10) :
    ((carryStep h k).get (carryTarget k)).toInt =
      s64 ((h.get (carryTarget k)).toInt + carryFactor k * (carryOut h k).toInt) := by
  rw [get_carryStep h hk, if_neg (carryTarget_ne k)]
  unfold carryTarget carryFactor
  by_cases h9 : k = 9
  · rw [if_pos h9, if_pos ⟨h9, rfl⟩, if_pos h9, toInt_add_eq_s64, toInt_ofNat_mul_eq_s64, s64_add_s64]
  · rw [if_neg h9, if_neg (fun h => h9 h.1), if_pos ⟨rfl, h9⟩, if_neg h9, toInt_add_eq_s64, Nat.cast_one, one_mul]

theorem get_carryStep_other (h : Wide) {k j : Nat} (hk : k < 10) (hsource : j ≠ k) (htarget : j ≠ carryTarget k) :
    (carryStep h k).get j = h.get j := by
  unfold carryTarget at htarget
  rw [get_carryStep h hk, if_neg hsource, if_neg (by grind), if_neg (by grind)]

section Step

variable {b : Nat → Nat} {h : Wide} {k : Nat} (fits : stepFits b k = true) (hb : h.Within b)
include fits hb

theorem toInt_carryOut_eq_roundedCarry : (carryOut h k).toInt = roundedCarry (h.get k).toInt (limbWidth k) := by
  obtain ⟨hk, hround, -⟩ := (stepFits_iff b k).mp fits
  have hx := abs_le.mp (hb k hk)
  rw [toInt_carryOut, s64_of_abs_lt, roundedCarry]
  rw [abs_lt]
  rcases limbWidth_cases k with hw | hw <;> rw [hw] at hround ⊢ <;> omega

/-- The sum a carry leaves keeps its remainder, where nothing wraps. -/
theorem toInt_source_carryStep : ((carryStep h k).get k).toInt =
    (h.get k).toInt - roundedCarry (h.get k).toInt (limbWidth k) * 2 ^ limbWidth k := by
  obtain ⟨hk, hround, -⟩ := (stepFits_iff b k).mp fits
  have hx := abs_le.mp (hb k hk)
  have hrem := abs_le.mp (abs_sub_roundedCarry_le (h.get k).toInt (limbWidth_cases k))
  rw [toInt_get_carryStep_source h hk, toInt_carryOut_eq_roundedCarry fits hb]
  generalize roundedCarry (h.get k).toInt (limbWidth k) = c at hrem ⊢
  have hmul : s64 (c * 2 ^ limbWidth k) = c * 2 ^ limbWidth k := by
    apply s64_of_abs_lt
    rw [abs_lt]
    rcases limbWidth_cases k with hw | hw <;> rw [hw] at hround hrem ⊢ <;> omega
  rw [hmul, s64_of_abs_lt]
  rw [abs_lt]
  rcases limbWidth_cases k with hw | hw <;> rw [hw] at hrem ⊢ <;> omega

theorem abs_factor_mul_roundedCarry_le :
    |carryFactor k * roundedCarry (h.get k).toInt (limbWidth k)|
      ≤ (carryFactor k * ((b k + 2 ^ (limbWidth k - 1)) / 2 ^ limbWidth k) : Nat) := by
  obtain ⟨hk, -, -⟩ := (stepFits_iff b k).mp fits
  rw [abs_mul, Nat.abs_cast, Nat.cast_mul]
  exact mul_le_mul_of_nonneg_left (abs_roundedCarry_le (limbWidth_cases k) (hb k hk)) (Nat.cast_nonneg _)

/-- The sum a carry enters grows by it, where nothing wraps. -/
theorem toInt_target_carryStep : ((carryStep h k).get (carryTarget k)).toInt =
    (h.get (carryTarget k)).toInt + carryFactor k * roundedCarry (h.get k).toInt (limbWidth k) := by
  obtain ⟨hk, -, htarget⟩ := (stepFits_iff b k).mp fits
  rw [carriedBound, if_neg (carryTarget_ne k), if_pos rfl] at htarget
  rw [toInt_get_carryStep_target h hk, toInt_carryOut_eq_roundedCarry fits hb, s64_of_abs_lt]
  calc |(h.get (carryTarget k)).toInt + carryFactor k * roundedCarry (h.get k).toInt (limbWidth k)|
      ≤ b (carryTarget k) + (carryFactor k * ((b k + 2 ^ (limbWidth k - 1)) / 2 ^ limbWidth k) : Nat) :=
        (abs_add_le _ _).trans (add_le_add (hb _ (carryTarget_lt hk)) (abs_factor_mul_roundedCarry_le fits hb))
    _ < 2 ^ 63 := by exact_mod_cast htarget

/-- A step moves the bounds as it moves the carry. -/
theorem within_carryStep : (carryStep h k).Within (carriedBound b k) := by
  obtain ⟨hk, -, -⟩ := (stepFits_iff b k).mp fits
  intro j hj
  by_cases hsource : j = k
  · subst hsource
    rw [toInt_source_carryStep fits hb, carriedBound, if_pos rfl]
    exact_mod_cast abs_sub_roundedCarry_le _ (limbWidth_cases j)
  · by_cases htarget : j = carryTarget k
    · subst htarget
      rw [toInt_target_carryStep fits hb, carriedBound, if_neg hsource, if_pos rfl, Nat.cast_add]
      exact (abs_add_le _ _).trans (add_le_add (hb _ hj) (abs_factor_mul_roundedCarry_le fits hb))
    · rw [get_carryStep_other h hk hsource htarget, carriedBound, if_neg hsource, if_neg htarget]
      exact hb j hj

/-- A step keeps the value mod p. -/
theorem val_carryStep : (carryStep h k).val ≡ h.val [ZMOD fieldPrime] := by
  obtain ⟨hk, -, -⟩ := (stepFits_iff b k).mp fits
  generalize hc : roundedCarry (h.get k).toInt (limbWidth k) = c
  have hterm : ∀ j, ((carryStep h k).get j).toInt * 2 ^ limbPos j = (h.get j).toInt * 2 ^ limbPos j
      + ((if j = k then -(c * 2 ^ limbWidth k * 2 ^ limbPos k) else 0)
        + (if j = carryTarget k then carryFactor k * c * 2 ^ limbPos (carryTarget k) else 0)) := by
    intro j
    by_cases hsource : j = k
    · subst hsource
      rw [toInt_source_carryStep fits hb, if_pos rfl, if_neg (carryTarget_ne j).symm, hc]
      ring
    · by_cases htarget : j = carryTarget k
      · subst htarget
        rw [toInt_target_carryStep fits hb, if_neg hsource, if_pos rfl, hc]
        ring
      · rw [get_carryStep_other h hk hsource htarget, if_neg hsource, if_neg htarget]
        ring
  have hmoved : (carryStep h k).val = h.val + c * (carryFactor k * 2 ^ limbPos (carryTarget k)
      - 2 ^ limbWidth k * 2 ^ limbPos k) := by
    simp only [Wide.val, hterm, Finset.sum_add_distrib, Finset.sum_ite_eq', Finset.mem_range, hk, carryTarget_lt hk,
      if_true]
    ring
  have hzero := ((carryTarget_pos hk).sub_right (2 ^ limbWidth k * 2 ^ limbPos k)).mul_left c
  rw [sub_self, mul_zero] at hzero
  rw [hmoved]
  simpa using hzero.add_left h.val

end Step

/-- A chain of steps that fits moves the bounds with the sums and keeps the value mod p. -/
theorem foldl_carryStep_spec {b : Nat → Nat} {h : Wide} {ks : List Nat} (fits : chainFits b ks = true)
    (hb : h.Within b) :
    (ks.foldl carryStep h).Within (ks.foldl carriedBound b)
      ∧ (ks.foldl carryStep h).val ≡ h.val [ZMOD fieldPrime] := by
  induction ks generalizing b h with
  | nil => exact ⟨hb, Int.ModEq.refl _⟩
  | cons k ks ih =>
    obtain ⟨hstep, hrest⟩ := Bool.and_eq_true_iff.mp fits
    obtain ⟨hwithin, hval⟩ := ih hrest (within_carryStep hstep hb)
    exact ⟨hwithin, hval.trans (val_carryStep hstep hb)⟩

/-! ### The whole chain (R66, R69) -/

/-- Class T's bound on limb i. -/
def tightBound (i : Nat) : Nat := if i = 1 ∨ i = 5 then 2 ^ 24 + 2 ^ 17 else 2 ^ (limbWidth i - 1)

/-- A bound on every sum under which the chain ends in class T: 2^62 + 2^61. -/
def productBound (_ : Nat) : Nat := 2 ^ 62 + 2 ^ 61

theorem chainFits_carryOrder : chainFits productBound carryOrder = true := by decide +kernel

theorem carriedBounds_tight : ∀ i < 10, carryOrder.foldl carriedBound productBound i ≤ tightBound i := by
  decide +kernel

theorem tightBound_lt : ∀ i < 10, tightBound i < 2 ^ 31 := by decide

theorem tight_iff (f : FieldElement) : f.Tight ↔ ∀ i, i < 10 → |f.int i| ≤ (tightBound i : Int) := by
  simp only [FieldElement.Tight, tightBound]
  push_cast
  rfl

/-- CARRY of sums that fit is in class T and keeps their value mod p. -/
theorem carry_spec {h : Wide} (hb : h.Within productBound) :
    (carry h).Tight ∧ (carry h).val ≡ h.val [ZMOD fieldPrime] := by
  obtain ⟨hwithin, hval⟩ := foldl_carryStep_spec chainFits_carryOrder hb
  have hsum : ∀ i, i < 10 → |((carryOrder.foldl carryStep h).get i).toInt| ≤ (tightBound i : Int) :=
    fun i hi => (hwithin i hi).trans (Nat.cast_le.mpr (carriedBounds_tight i hi))
  have hint : ∀ i, i < 10 → (carry h).int i = ((carryOrder.foldl carryStep h).get i).toInt := fun i hi => by
    rw [carry, int_toLimbs _ hi]
    exact s32_of_abs_lt ((hsum i hi).trans_lt (Nat.cast_lt.mpr (tightBound_lt i hi)))
  refine ⟨(tight_iff _).mpr fun i hi => (hint i hi).symm ▸ hsum i hi, ?_⟩
  have heq : (carry h).val = (carryOrder.foldl carryStep h).val := by
    rw [FieldElement.val_eq_sum, Wide.val]
    exact Finset.sum_congr rfl fun i hi => by rw [hint i (Finset.mem_range.mp hi)]
  exact (congrArg (· % (fieldPrime : Int)) heq).trans hval

end Sys2Proof.Machine
end

section
/-! SUPPORT. The ten sums of limb products as integer sums over index pairs, which R68's loop and the model's
written-out sums both are; then the multiplies, as commands and as products mod p (R66, R79 to R81). -/

namespace Sys2Proof.Machine

/-! ### The sums of R68 -/

/-- R68's factor of the product of limbs i and j. -/
def mulCoeff (i j : Nat) : Int := (if i % 2 = 1 ∧ j % 2 = 1 then 2 else 1) * (if 10 ≤ i + j then 19 else 1)

/-- What the product of limbs i and j adds to sum k. -/
def mulTerm (f g : FieldElement) (k i j : Nat) : Int :=
  if (i + j) % 10 = k then mulCoeff i j * f.int i * g.int j else 0

/-- Sum k of R68, with no wrap. -/
def mulsumInt (f g : FieldElement) (k : Nat) : Int :=
  ∑ i ∈ Finset.range 10, ∑ j ∈ Finset.range 10, mulTerm f g k i j

/-- The index of the limb whose product with limb i goes to sum k. -/
def mulPartner (k i : Nat) : Nat := (k + 10 - i) % 10

theorem mulPartner_lt (k i : Nat) : mulPartner k i < 10 := Nat.mod_lt _ (by decide)

theorem mulsumInt_eq_sum_partner (f g : FieldElement) {k : Nat} (hk : k < 10) : mulsumInt f g k =
    ∑ i ∈ Finset.range 10, mulCoeff i (mulPartner k i) * f.int i * g.int (mulPartner k i) := by
  refine Finset.sum_congr rfl fun i hi => ?_
  have hi' := Finset.mem_range.mp hi
  have hpartner : ∀ j ∈ Finset.range 10, mulTerm f g k i j
      = if j = mulPartner k i then mulCoeff i j * f.int i * g.int j else 0 := fun j hj => by
    have hiff : (i + j) % 10 = k ↔ j = mulPartner k i := by
      have := Finset.mem_range.mp hj
      unfold mulPartner
      omega
    simp only [mulTerm, hiff]
  rw [Finset.sum_congr rfl hpartner, Finset.sum_ite_eq', if_pos (Finset.mem_range.mpr (mulPartner_lt k i))]

theorem sum_map_limbIndices (u : Nat → Int) : (limbIndices.map u).sum = ∑ i ∈ Finset.range 10, u i := rfl

theorem sum_limbPairs (t : Nat × Nat → Int) :
    (limbPairs.map t).sum = ∑ i ∈ Finset.range 10, ∑ j ∈ Finset.range 10, t (i, j) := by
  rw [limbPairs, List.map_flatMap, List.flatMap, List.sum_flatten, List.map_map, sum_map_limbIndices]
  refine Finset.sum_congr rfl fun i _ => ?_
  rw [Function.comp_apply, List.map_map, sum_map_limbIndices]
  rfl

theorem ofInt_limbSext (x : Limb) : limbSext x = BitVec.ofInt 64 x.toInt := by
  apply BitVec.eq_of_toInt_eq
  rw [limbSext, BitVec.toInt_signExtend_of_le (by decide), BitVec.toInt_ofInt, Int.bmod_eq_of_le]
  all_goals have := x.le_toInt; have := x.toInt_lt; omega

/-- The written-out sums are those of the index pairs, modulo 2^64. -/
theorem get_mulsum (f g : FieldElement) {k : Nat} (hk : k < 10) :
    (mulsum f g).get k = BitVec.ofInt 64 (mulsumInt f g k) := by
  rw [mulsumInt_eq_sum_partner f g hk]
  simp only [mulsum, ofInt_limbSext, Finset.sum_range_succ, Finset.sum_range_zero, BitVec.ofInt_add, BitVec.ofInt_mul]
  interval_cases k <;>
    simp [mulsumWide, Wide.get, mulPartner, mulCoeff, FieldElement.int, FieldElement.limb, BitVec.mul_assoc]

theorem toInt_get_mulsum (f g : FieldElement) {k : Nat} (hk : k < 10) :
    ((mulsum f g).get k).toInt = s64 (mulsumInt f g k) := by
  rw [get_mulsum f g hk, BitVec.toInt_ofInt, s64_eq_bmod]

/-! ### The double loop -/

theorem s64_s64_add_s64 (a b : Int) : s64 (s64 a + s64 b) = s64 (a + b) := by
  simp only [s64_eq_bmod, Int.add_bmod_bmod, Int.bmod_add_bmod]

theorem getD_mulsumBody (f g : FieldElement) {u : List Int} (hlen : u.length = 10) (ij : Nat × Nat) {k : Nat} {x : Int}
    (hx : u.getD k 0 = s64 x) : (mulsumBody f g u ij).getD k 0 = s64 (x + mulTerm f g k ij.1 ij.2) := by
  have hlt : (ij.1 + ij.2) % 10 < u.length := by
    rw [hlen]
    exact Nat.mod_lt _ (by decide)
  rw [List.getD_eq_getElem?_getD] at hx
  simp only [mulsumBody, mulTerm, List.getD_eq_getElem?_getD, List.getElem?_set]
  by_cases hk : (ij.1 + ij.2) % 10 = k
  · subst hk
    simp only [if_true, if_pos hlt, Option.getD_some, hx, s64_s64_add_s64]
    rfl
  · simp only [if_neg hk, add_zero, hx]

theorem getD_foldl_mulsumBody (f g : FieldElement) {k : Nat} (ps : List (Nat × Nat)) {u : List Int} {x : Int}
    (hlen : u.length = 10) (hx : u.getD k 0 = s64 x) :
    (ps.foldl (mulsumBody f g) u).getD k 0 = s64 (x + (ps.map fun ij => mulTerm f g k ij.1 ij.2).sum) := by
  induction ps generalizing u x with
  | nil => simpa using hx
  | cons ij ps ih =>
    rw [List.foldl_cons, List.map_cons, List.sum_cons, ← add_assoc]
    exact ih ((List.length_set ..).trans hlen) (getD_mulsumBody f g hlen ij hx)

/-- R68's double loop adds up the index pairs of each sum. -/
theorem getD_mulsumLoop (f g : FieldElement) {k : Nat} (hk : k < 10) :
    (mulsumLoop f g).getD k 0 = s64 (mulsumInt f g k) := by
  have hzero : (List.replicate 10 (0 : Int)).getD k 0 = s64 0 := by
    interval_cases k <;> rfl
  rw [mulsumLoop, getD_foldl_mulsumBody f g limbPairs (List.length_replicate ..) hzero, sum_limbPairs, zero_add,
    mulsumInt]

/-- Settles O32: the written-out sums and the double loop both are the sums over index pairs. -/
theorem mulsumIsTheDoubleLoop : Obligations.MulsumIsTheDoubleLoop := fun f g k hk => by
  rw [toInt_get_mulsum f g hk, getD_mulsumLoop f g hk]

/-! ### The multiplies as commands -/

theorem mulCoeff_comm (i j : Nat) : mulCoeff i j = mulCoeff j i := by
  simp only [mulCoeff, and_comm, Nat.add_comm]

theorem mulsumInt_comm (f g : FieldElement) (k : Nat) : mulsumInt f g k = mulsumInt g f k := by
  rw [mulsumInt, mulsumInt, Finset.sum_comm]
  refine Finset.sum_congr rfl fun j _ => Finset.sum_congr rfl fun i _ => ?_
  rw [mulTerm, mulTerm, Nat.add_comm, mulCoeff_comm, mul_right_comm]

theorem mulsum_comm (f g : FieldElement) : mulsum f g = mulsum g f :=
  Wide.ext_get fun k hk => by rw [get_mulsum f g hk, get_mulsum g f hk, mulsumInt_comm]

theorem feMul_comm (f g : FieldElement) : feMul f g = feMul g f := by
  rw [feMul, feMul, mulsum_comm]

theorem feSq_eq_feMul (f : FieldElement) : feSq f = feMul f f := rfl

theorem toInt_get_double (h : Wide) {k : Nat} (hk : k < 10) : (h.double.get k).toInt = s64 (2 * (h.get k).toInt) := by
  have hget : h.double.get k = 2#64 * h.get k := by
    interval_cases k <;> rfl
  rw [hget, toInt_ofNat_mul_eq_s64]
  rfl

/-- Settles O34: the commands write the carried sums, FE_SQ's are FE_MUL's, and the sums are symmetric. -/
theorem multipliesWriteCarriedProducts : Obligations.MultipliesWriteCarriedProducts := by
  intro s rd ra rb
  simp only [← readFr_reg]
  refine ⟨finish_writeFr s rd _, rfl, ?_, (mulsum (s.readFr ra.val) (s.readFr ra.val)).double, finish_writeFr s rd _,
    fun k hk => toInt_get_double _ hk⟩
  change execFeMul rd ra rb s = execFeMul rd rb ra s
  rw [execFeMul, feMul_comm, execFeMul]

/-! ### Products mod p (R66) -/

/-- Sum k for limbs at the nominal widths: what β-bounded operands make of it, but for β². -/
def mulWeight (k : Nat) : Int :=
  ∑ i ∈ Finset.range 10, mulCoeff i (mulPartner k i) * 2 ^ limbWidth i * 2 ^ limbWidth (mulPartner k i)

theorem mulWeight_le : ∀ k < 10, 9 * mulWeight k ≤ productBound k := by decide +kernel

theorem mulCoeff_nonneg (i j : Nat) : 0 ≤ mulCoeff i j := by
  unfold mulCoeff
  positivity

theorem abs_mulsumInt_le {f g : FieldElement} {β : Nat} (hf : f.Bounded β) (hg : g.Bounded β) {k : Nat}
    (hk : k < 10) : |mulsumInt f g k| ≤ β ^ 2 * mulWeight k := by
  rw [mulsumInt_eq_sum_partner f g hk, mulWeight, Finset.mul_sum]
  refine (Finset.abs_sum_le_sum_abs _ _).trans (Finset.sum_le_sum fun i hi => ?_)
  rw [abs_mul, abs_mul, abs_of_nonneg (mulCoeff_nonneg _ _)]
  have hfi := hf i (Finset.mem_range.mp hi)
  have hgj := hg _ (mulPartner_lt k i)
  calc mulCoeff i (mulPartner k i) * |f.int i| * |g.int (mulPartner k i)|
      ≤ mulCoeff i (mulPartner k i) * (β * 2 ^ limbWidth i) * (β * 2 ^ limbWidth (mulPartner k i)) := by
        have := mulCoeff_nonneg i (mulPartner k i)
        gcongr
    _ = β ^ 2 * (mulCoeff i (mulPartner k i) * 2 ^ limbWidth i * 2 ^ limbWidth (mulPartner k i)) := by ring

/-- A product stands at its sum's position up to the factor of R68. -/
theorem mulCoeff_pos {i j : Nat} (hi : i < 10) (hj : j < 10) :
    mulCoeff i j * 2 ^ limbPos ((i + j) % 10) ≡ 2 ^ limbPos i * 2 ^ limbPos j [ZMOD fieldPrime] := by
  have : ∀ i < 10, ∀ j < 10, mulCoeff i j * 2 ^ limbPos ((i + j) % 10) % (fieldPrime : Int)
      = 2 ^ limbPos i * 2 ^ limbPos j % fieldPrime := by decide +kernel
  exact this i hi j hj

theorem sum_mulsumInt (f g : FieldElement) :
    ∑ k ∈ Finset.range 10, mulsumInt f g k * 2 ^ limbPos k = ∑ i ∈ Finset.range 10, ∑ j ∈ Finset.range 10,
      mulCoeff i j * f.int i * g.int j * 2 ^ limbPos ((i + j) % 10) := by
  simp only [mulsumInt, Finset.sum_mul]
  rw [Finset.sum_comm]
  refine Finset.sum_congr rfl fun i _ => ?_
  rw [Finset.sum_comm]
  refine Finset.sum_congr rfl fun j _ => ?_
  simp only [mulTerm, ite_mul, zero_mul]
  rw [Finset.sum_ite_eq, if_pos (Finset.mem_range.mpr (Nat.mod_lt _ (by decide)))]

/-- The ten sums, unwrapped, stand for the product mod p. -/
theorem sum_mulsumInt_modEq (f g : FieldElement) :
    ∑ k ∈ Finset.range 10, mulsumInt f g k * 2 ^ limbPos k ≡ f.val * g.val [ZMOD fieldPrime] := by
  rw [sum_mulsumInt, f.val_eq_sum, g.val_eq_sum, Finset.sum_mul_sum]
  refine Int.ModEq.sum fun i hi => Int.ModEq.sum fun j hj => ?_
  have hpos := (mulCoeff_pos (Finset.mem_range.mp hi) (Finset.mem_range.mp hj)).mul_left (f.int i * g.int j)
  calc mulCoeff i j * f.int i * g.int j * 2 ^ limbPos ((i + j) % 10)
      = f.int i * g.int j * (mulCoeff i j * 2 ^ limbPos ((i + j) % 10)) := by ring
    _ ≡ f.int i * g.int j * (2 ^ limbPos i * 2 ^ limbPos j) [ZMOD fieldPrime] := hpos
    _ = f.int i * 2 ^ limbPos i * (g.int j * 2 ^ limbPos j) := by ring

theorem productBound_lt (k : Nat) : (productBound k : Int) < 2 ^ 63 := by
  rw [productBound]
  decide

/-- Sums that are small integers are those integers: they fit the chain and have the integers' value. -/
theorem within_of_toInt_eq_s64 {h : Wide} {u : Nat → Int} (hu : ∀ k, k < 10 → (h.get k).toInt = s64 (u k))
    (hb : ∀ k, k < 10 → |u k| ≤ productBound k) :
    h.Within productBound ∧ h.val = ∑ k ∈ Finset.range 10, u k * 2 ^ limbPos k := by
  have hexact : ∀ k, k < 10 → (h.get k).toInt = u k := fun k hk =>
    (hu k hk).trans (s64_of_abs_lt ((hb k hk).trans_lt (productBound_lt k)))
  exact ⟨fun k hk => (hexact k hk).symm ▸ hb k hk,
    Finset.sum_congr rfl fun k hk => by rw [hexact k (Finset.mem_range.mp hk)]⟩

/-- R66's first contract. -/
theorem feMul_spec {f g : FieldElement} (hf : f.Bounded 3) (hg : g.Bounded 3) :
    (feMul f g).Tight ∧ CongrP (feMul f g).val (f.val * g.val) := by
  obtain ⟨hwithin, hval⟩ := within_of_toInt_eq_s64 (fun k hk => toInt_get_mulsum f g hk)
    fun k hk => (abs_mulsumInt_le hf hg hk).trans (mulWeight_le k hk)
  obtain ⟨htight, hcongr⟩ := carry_spec hwithin
  exact ⟨htight, hcongr.trans (hval ▸ sum_mulsumInt_modEq f g)⟩

/-- R66's second contract. -/
theorem feSq2_spec {f : FieldElement} (hf : f.Bounded 2) :
    (feSq2 f).Tight ∧ CongrP (feSq2 f).val (2 * f.val ^ 2) := by
  have hdouble : ∀ k, k < 10 → ((mulsum f f).double.get k).toInt = s64 (2 * mulsumInt f f k) := fun k hk => by
    rw [toInt_get_double _ hk, toInt_get_mulsum f f hk, s64_eq_bmod, s64_eq_bmod, s64_eq_bmod, Int.mul_bmod_bmod]
  have hbound : ∀ k, k < 10 → |2 * mulsumInt f f k| ≤ productBound k := fun k hk => by
    have hsum := abs_mulsumInt_le hf hf hk
    have hweight := mulWeight_le k hk
    rw [abs_mul]
    norm_num at hsum ⊢
    linarith [abs_nonneg (mulsumInt f f k)]
  obtain ⟨hwithin, hval⟩ := within_of_toInt_eq_s64 hdouble hbound
  obtain ⟨htight, hcongr⟩ := carry_spec hwithin
  refine ⟨htight, hcongr.trans ?_⟩
  have hsum := (sum_mulsumInt_modEq f f).mul_left 2
  rw [Finset.mul_sum] at hsum
  simpa only [hval, mul_assoc, sq] using hsum

/-- Settles O35: the sums of R68 stand for the product, and the carry chain keeps that. -/
theorem multipliesAreCongruentInTheirDomains : Obligations.MultipliesAreCongruentInTheirDomains :=
  ⟨fun _ _ => feMul_spec, fun _ => feSq2_spec⟩

end Sys2Proof.Machine
end

section
/-! SUPPORT. REDUCE in closed form.  Both loops of R70 run one recursion of unrounded carries; as integers it is a
nested floor, so the first loop finds the quotient and the second leaves the remainder's limbs. -/

namespace Sys2Proof.Machine

/-! ### The carries of both loops -/

/-- The carry into limb i, from the carry `a` into limb 0: the loops of R70 on stored limbs. -/
def limbCarry (a : Limb) (f : FieldElement) : Nat → Limb
  | 0 => a
  | i + 1 => (f.limb i + limbCarry a f i).sshiftRight (limbWidth i)

/-- The first quotient estimate of R70. -/
def quotientSeed (f : FieldElement) : Limb := (19#32 * f.l9 + BitVec.ofNat 32 (2 ^ 24)).sshiftRight 25

theorem reduceQuotient_eq_limbCarry (f : FieldElement) : reduceQuotient f = limbCarry (quotientSeed f) f 10 := rfl

/-- What REDUCE's carry loop starts from. -/
def reduceStart (f : FieldElement) : FieldElement := f.setLimb 0 (f.l0 + 19#32 * reduceQuotient f)

/-- Limb i after its carry left it. -/
def carriedLimb (g : FieldElement) (i : Nat) : Limb :=
  let x := g.limb i + limbCarry 0#32 g i
  x - x.sshiftRight (limbWidth i) <<< limbWidth i

theorem limb_setLimb (f : FieldElement) {i : Nat} (v : Limb) (hi : i < 10) (j : Nat) :
    (f.setLimb i v).limb j = if j = i then v else f.limb j := by
  split
  · next heq => rw [heq, limb_setLimb_same f v hi]
  · next hne => exact limb_setLimb_other f v hne

theorem limb_reduceCarryStep (h : FieldElement) {i j : Nat} (hi : i < 10) (hj : j < 10) :
    (reduceCarryStep h i).limb j =
      if j = i then h.limb i - (h.limb i).sshiftRight (limbWidth i) <<< limbWidth i
      else if j = i + 1 then h.limb j + (h.limb i).sshiftRight (limbWidth i)
      else h.limb j := by
  simp only [reduceCarryStep]
  by_cases hnext : j = i + 1
  · subst hnext
    rw [if_pos (by omega), limb_setLimb_same _ _ hj, limb_setLimb_other _ _ (by omega), if_neg (by omega), if_pos rfl]
  · rw [if_neg hnext, ← limb_setLimb h _ hi]
    split
    · rw [limb_setLimb_other _ _ hnext]
    · rfl

/-- The carry loop up to limb n: the limbs below n are done, and limb n holds its carry. -/
theorem limb_foldl_reduceCarryStep (g : FieldElement) (n : Nat) (hn : n ≤ 10) {j : Nat} (hj : j < 10) :
    ((List.range n).foldl reduceCarryStep g).limb j =
      if j < n then carriedLimb g j else if j = n then g.limb j + limbCarry 0#32 g j else g.limb j := by
  induction n generalizing j with
  | zero =>
    by_cases h0 : j = 0
    · subst h0
      simp [limbCarry]
    · simp [h0]
  | succ n ih =>
    rw [List.range_succ, List.foldl_append, List.foldl_cons, List.foldl_nil, limb_reduceCarryStep _ (by omega) hj,
      ih (by omega) (by omega), ih (by omega) hj, if_neg (lt_irrefl n), if_pos rfl]
    rcases lt_trichotomy j n with hlt | rfl | hgt
    · rw [if_neg (by omega), if_neg (by omega), if_pos hlt, if_pos (by omega)]
    · rw [if_pos rfl, if_pos (by omega)]
      rfl
    · rw [if_neg (by omega), if_neg (by omega : ¬ j < n), if_neg (by omega : ¬ j = n),
        if_neg (by omega : ¬ j < n + 1)]
      split
      · next hnext => subst hnext; rfl
      · rfl

theorem limb_feReduce (f : FieldElement) {i : Nat} (hi : i < 10) :
    (feReduce f).limb i = carriedLimb (reduceStart f) i := by
  have hfold : feReduce f = (List.range 10).foldl reduceCarryStep (reduceStart f) := rfl
  rw [hfold, limb_foldl_reduceCarryStep _ 10 le_rfl hi, if_pos hi]

/-- A limb without its carry is the carry's remainder. -/
theorem toInt_carriedLimb (g : FieldElement) (i : Nat) :
    (carriedLimb g i).toInt = (g.limb i + limbCarry 0#32 g i).toInt % 2 ^ limbWidth i := by
  simp only [carriedLimb]
  generalize g.limb i + limbCarry 0#32 g i = x
  have hlow := x.le_toInt
  have hhigh := x.toInt_lt
  rw [toInt_sub_eq_s32, toInt_shiftLeft_eq_s32, toInt_sshiftRight_eq_div]
  unfold s32
  rcases limbWidth_cases i with hw | hw <;> rw [hw] <;> omega

/-- Every limb of REDUCE is in range, for every input (R70). -/
theorem feReduce_inRange (f : FieldElement) : (feReduce f).InRange := fun i hi => by
  rw [FieldElement.int, limb_feReduce f hi, toInt_carriedLimb]
  exact ⟨Int.emod_nonneg _ (by positivity), Int.emod_lt_of_pos _ (by positivity)⟩

/-! ### The carries as a nested floor -/

/-- The same recursion on integers, with no wrap. -/
def intCarry (a : Int) (u : Nat → Int) : Nat → Int
  | 0 => a
  | i + 1 => (u i + intCarry a u i) / 2 ^ limbWidth i

theorem limbPos_succ (i : Nat) : limbPos (i + 1) = limbPos i + limbWidth i := by
  unfold limbPos limbWidth
  split <;> omega

/-- A carry is the floor of all that stands below it. -/
theorem intCarry_eq_div (a : Int) (u : Nat → Int) (i : Nat) :
    intCarry a u i = (a + ∑ j ∈ Finset.range i, u j * 2 ^ limbPos j) / 2 ^ limbPos i := by
  induction i with
  | zero => simp [intCarry, limbPos]
  | succ i ih =>
    have hpos : (2 : Int) ^ limbPos i ≠ 0 := by positivity
    rw [intCarry, ih, Finset.sum_range_succ, limbPos_succ, pow_add, ← Int.ediv_ediv_of_nonneg (by positivity),
      ← add_assoc, Int.add_mul_ediv_right _ _ hpos, add_comm]

/-- The remainders of the carries stand for the limbs and the first carry, less the last carry. -/
theorem sum_remainders (a : Int) (u : Nat → Int) (n : Nat) :
    ∑ i ∈ Finset.range n, (u i + intCarry a u i) % 2 ^ limbWidth i * 2 ^ limbPos i
      = a + ∑ i ∈ Finset.range n, u i * 2 ^ limbPos i - intCarry a u n * 2 ^ limbPos n := by
  induction n with
  | zero => simp [intCarry, limbPos]
  | succ n ih =>
    rw [Finset.sum_range_succ, ih, Finset.sum_range_succ, intCarry, limbPos_succ, pow_add, Int.emod_def]
    ring

/-- A limb in B4 takes a carry below 2^25 without wrapping. -/
theorem toInt_limb_add {f : FieldElement} (hf : f.Bounded 4) {i : Nat} (hi : i < 10) {c : Limb}
    (hc : |c.toInt| ≤ 2 ^ 25) : (f.limb i + c).toInt = f.int i + c.toInt := by
  have hlimb := hf i hi
  rw [toInt_add_eq_s32]
  apply s32_of_abs_lt
  rw [FieldElement.int] at hlimb
  rw [abs_le] at hc hlimb
  rw [abs_lt]
  rcases limbWidth_cases i with hw | hw <;> rw [hw] at hlimb <;> omega

/-- For limbs in B4 and a first carry below 2^25 no carry wraps. -/
theorem toInt_limbCarry {a : Limb} {f : FieldElement} (ha : |a.toInt| ≤ 2 ^ 25) (hf : f.Bounded 4) {i : Nat}
    (hi : i ≤ 10) : (limbCarry a f i).toInt = intCarry a.toInt f.int i ∧ |(limbCarry a f i).toInt| ≤ 2 ^ 25 := by
  induction i with
  | zero => exact ⟨rfl, ha⟩
  | succ i ih =>
    obtain ⟨heq, hle⟩ := ih (by omega)
    have hlimb := hf i (by omega)
    rw [limbCarry, toInt_sshiftRight_eq_div, toInt_limb_add hf (by omega) hle, intCarry, ← heq]
    refine ⟨rfl, ?_⟩
    rw [abs_le] at hle hlimb ⊢
    rcases limbWidth_cases i with hw | hw <;> rw [hw] at hlimb ⊢ <;> omega

/-! ### The value of the result -/

/-- Where nothing wraps, the carry loop takes a multiple of 2^255 off the value. -/
theorem val_feReduce_of_bounded {f : FieldElement} (hstart : (reduceStart f).Bounded 4) :
    (feReduce f).val = (reduceStart f).val - intCarry 0 (reduceStart f).int 10 * 2 ^ 255 := by
  have hlimb : ∀ i ∈ Finset.range 10, (feReduce f).int i * 2 ^ limbPos i
      = ((reduceStart f).int i + intCarry 0 (reduceStart f).int i) % 2 ^ limbWidth i * 2 ^ limbPos i := fun i hi => by
    have hi' := Finset.mem_range.mp hi
    obtain ⟨heq, hle⟩ := toInt_limbCarry (a := 0#32) (by decide) hstart (Nat.le_of_lt hi')
    rw [FieldElement.int, limb_feReduce f hi', toInt_carriedLimb, toInt_limb_add hstart hi' hle, heq]
    rfl
  rw [(feReduce f).val_eq_sum, Finset.sum_congr rfl hlimb, sum_remainders, zero_add, ← (reduceStart f).val_eq_sum]
  rfl

theorem quotientSeed_spec {f : FieldElement} (hf : f.Bounded 3) :
    (quotientSeed f).toInt = (19 * f.int 9 + 2 ^ 24) / 2 ^ 25 := by
  have h9 := hf 9 (by decide)
  change |f.int 9| ≤ 3 * 2 ^ 25 at h9
  rw [abs_le] at h9
  rw [quotientSeed, toInt_sshiftRight_eq_div, toInt_add_eq_s32, toInt_ofNat_mul_eq_s32]
  change s32 (s32 (19 * f.int 9) + 2 ^ 24) / 2 ^ 25 = _
  unfold s32
  omega

theorem FieldElement.Bounded.mono {f : FieldElement} {β γ : Nat} (h : f.Bounded β) (hle : β ≤ γ) :
    f.Bounded γ :=
  fun i hi => (h i hi).trans (mul_le_mul_of_nonneg_right (Nat.cast_le.mpr hle) (by positivity))

/-- The quotient, as the floor that the first loop computes. -/
theorem toInt_reduceQuotient_eq_div {f : FieldElement} (hf : f.Bounded 3) :
    (reduceQuotient f).toInt = ((19 * f.int 9 + 2 ^ 24) / 2 ^ 25 + f.val) / 2 ^ 255 := by
  have hseed := quotientSeed_spec hf
  have hle : |(quotientSeed f).toInt| ≤ 2 ^ 25 := by
    have h9 := hf 9 (by decide)
    change |f.int 9| ≤ 3 * 2 ^ 25 at h9
    rw [abs_le] at h9 ⊢
    omega
  obtain ⟨heq, -⟩ := toInt_limbCarry hle (hf.mono (by decide)) le_rfl
  rw [reduceQuotient_eq_limbCarry, heq, intCarry_eq_div, hseed, f.val_eq_sum]
  rfl

/-- The top limb of an element of B3 is its value within 2^232. -/
theorem abs_val_sub_top_le {f : FieldElement} (hf : f.Bounded 3) : |f.val - f.int 9 * 2 ^ 230| ≤ 2 ^ 232 := by
  have hlimb : ∀ i (hi : i < 9), -(3 * 2 ^ limbWidth i) ≤ f.int i ∧ f.int i ≤ 3 * 2 ^ limbWidth i := fun i hi =>
    abs_le.mp (hf i (by omega))
  have hval : f.val = f.int 0 + f.int 1 * 2 ^ 26 + f.int 2 * 2 ^ 51 + f.int 3 * 2 ^ 77 + f.int 4 * 2 ^ 102
    + f.int 5 * 2 ^ 128 + f.int 6 * 2 ^ 153 + f.int 7 * 2 ^ 179 + f.int 8 * 2 ^ 204 + f.int 9 * 2 ^ 230 := rfl
  have h0 := hlimb 0 (by decide); have h1 := hlimb 1 (by decide); have h2 := hlimb 2 (by decide)
  have h3 := hlimb 3 (by decide); have h4 := hlimb 4 (by decide); have h5 := hlimb 5 (by decide)
  have h6 := hlimb 6 (by decide); have h7 := hlimb 7 (by decide); have h8 := hlimb 8 (by decide)
  norm_num [limbWidth] at h0 h1 h2 h3 h4 h5 h6 h7 h8
  rw [hval, abs_le]
  omega

/-- The quotient is that of the value by p (R70): the seed 19·l[9]/2^25 tells the floors by 2^255 and by p apart. -/
theorem reduceQuotient_spec {f : FieldElement} (hf : f.Bounded 3) :
    |(reduceQuotient f).toInt| ≤ 5 ∧ f.val - (reduceQuotient f).toInt * fieldPrime = f.val % fieldPrime := by
  have hq := toInt_reduceQuotient_eq_div hf
  have htop := abs_le.mp (abs_val_sub_top_le hf)
  have h9 := hf 9 (by decide)
  change |f.int 9| ≤ 3 * 2 ^ 25 at h9
  rw [abs_le] at h9
  have hprime : (fieldPrime : Int) = 2 ^ 255 - 19 := by decide
  generalize (reduceQuotient f).toInt = q at hq ⊢
  rw [hprime, abs_le]
  have hsmall : -5 ≤ q ∧ q ≤ 5 := by omega
  have hlow : 0 ≤ f.val - q * (2 ^ 255 - 19) := by omega
  have hhigh : f.val - q * (2 ^ 255 - 19) < 2 ^ 255 - 19 := by omega
  exact ⟨hsmall, by omega⟩

theorem reduceStart_int_zero {f : FieldElement} (hf : f.Bounded 3) :
    (reduceStart f).int 0 = f.int 0 + 19 * (reduceQuotient f).toInt := by
  have h0 := hf 0 (by decide)
  change |f.int 0| ≤ 3 * 2 ^ 26 at h0
  obtain ⟨hq, -⟩ := reduceQuotient_spec hf
  rw [abs_le] at h0 hq
  rw [FieldElement.int, reduceStart, limb_setLimb_same _ _ (by decide), toInt_add_eq_s32, toInt_ofNat_mul_eq_s32]
  change s32 (f.int 0 + s32 (19 * _)) = _
  unfold s32
  omega

theorem reduceStart_int_succ (f : FieldElement) (i : Nat) : (reduceStart f).int (i + 1) = f.int (i + 1) := by
  rw [FieldElement.int, reduceStart, limb_setLimb_other _ _ (Nat.succ_ne_zero i), FieldElement.int]

theorem reduceStart_bounded {f : FieldElement} (hf : f.Bounded 3) : (reduceStart f).Bounded 4 := fun i hi => by
  cases i with
  | zero =>
    have h0 := hf 0 hi
    obtain ⟨hq, -⟩ := reduceQuotient_spec hf
    change |f.int 0| ≤ 3 * 2 ^ 26 at h0
    change _ ≤ 4 * 2 ^ 26
    rw [reduceStart_int_zero hf]
    rw [abs_le] at h0 hq ⊢
    omega
  | succ i =>
    rw [reduceStart_int_succ]
    exact hf.mono (by decide) (i + 1) hi

theorem val_reduceStart {f : FieldElement} (hf : f.Bounded 3) :
    (reduceStart f).val = f.val + 19 * (reduceQuotient f).toInt := by
  rw [(reduceStart f).val_eq_sum, f.val_eq_sum, Finset.sum_range_succ' _ 9, Finset.sum_range_succ' _ 9,
    reduceStart_int_zero hf]
  simp only [reduceStart_int_succ]
  change _ + _ * 1 = _ + _ * 1 + _
  ring

/-! ### Limbs in range are the digits of their value (R11) -/

theorem sum_digits_lt {d : Nat → Nat} {n : Nat} (hd : ∀ i, i < n → d i < 2 ^ limbWidth i) :
    ∑ i ∈ Finset.range n, d i * 2 ^ limbPos i < 2 ^ limbPos n := by
  induction n with
  | zero => simp [limbPos]
  | succ n ih =>
    have hbelow := ih fun i hi => hd i (by omega)
    have hdigit : (d n + 1) * 2 ^ limbPos n ≤ 2 ^ limbWidth n * 2 ^ limbPos n :=
      Nat.mul_le_mul_right _ (hd n (by omega))
    rw [Finset.sum_range_succ, limbPos_succ, pow_add, mul_comm (2 ^ limbPos n)]
    linarith

theorem limbPos_mono : Monotone limbPos :=
  monotone_nat_of_le_succ fun i => by rw [limbPos_succ]; exact Nat.le_add_right _ _

/-- Digit i of a sum of digits at the limb positions. -/
theorem digit_of_sum {d : Nat → Nat} {n i : Nat} (hd : ∀ i, i < n → d i < 2 ^ limbWidth i) (hi : i < n) :
    (∑ j ∈ Finset.range n, d j * 2 ^ limbPos j) / 2 ^ limbPos i % 2 ^ limbWidth i = d i := by
  rw [← Nat.mod_mul_right_div_self, ← pow_add, ← limbPos_succ]
  induction n, hi using Nat.le_induction with
  | base =>
    rw [Nat.mod_eq_of_lt (sum_digits_lt hd), Finset.sum_range_succ, Nat.add_mul_div_right _ _ (by positivity),
      Nat.div_eq_of_lt (sum_digits_lt fun j hj => hd j (by omega)), Nat.zero_add]
  | succ n hn ih =>
    have hdvd : 2 ^ limbPos (i + 1) ∣ d n * 2 ^ limbPos n :=
      Dvd.dvd.mul_left (pow_dvd_pow 2 (limbPos_mono hn)) _
    rw [Finset.sum_range_succ, Nat.add_mod, Nat.mod_eq_zero_of_dvd hdvd, Nat.add_zero, Nat.mod_mod,
      ih fun j hj => hd j (by omega)]

theorem packValue_eq_sum (h : FieldElement) :
    packValue h = ∑ i ∈ Finset.range 10, (h.limb i).toNat * 2 ^ limbPos i := by
  simp only [Finset.sum_range_succ, Finset.sum_range_zero, zero_add]
  change _ = h.l0.toNat * 2 ^ 0 + _ + _ + _ + _ + _ + _ + _ + _ + _
  rw [pow_zero, mul_one]
  rfl

section InRange

variable {h : FieldElement} (hrange : h.InRange)
include hrange

theorem int_eq_toNat_of_inRange {i : Nat} (hi : i < 10) : h.int i = (h.limb i).toNat := by
  obtain ⟨hnonneg, -⟩ := hrange i hi
  rw [FieldElement.int, BitVec.toInt_eq_toNat_cond] at hnonneg ⊢
  have := (h.limb i).isLt
  split <;> omega

theorem toNat_limb_lt {i : Nat} (hi : i < 10) : (h.limb i).toNat < 2 ^ limbWidth i := by
  have hlt := (hrange i hi).2
  rw [int_eq_toNat_of_inRange hrange hi] at hlt
  exact_mod_cast hlt

theorem val_eq_packValue : h.val = packValue h := by
  rw [h.val_eq_sum, packValue_eq_sum, Nat.cast_sum]
  refine Finset.sum_congr rfl fun i hi => ?_
  rw [int_eq_toNat_of_inRange hrange (Finset.mem_range.mp hi)]
  push_cast
  rfl

theorem packValue_lt : packValue h < 2 ^ 255 := by
  rw [packValue_eq_sum]
  exact sum_digits_lt fun i hi => toNat_limb_lt hrange hi

theorem digit_packValue {i : Nat} (hi : i < 10) :
    packValue h / 2 ^ limbPos i % 2 ^ limbWidth i = (h.limb i).toNat := by
  rw [packValue_eq_sum]
  exact digit_of_sum (d := fun i => (h.limb i).toNat) (fun i hi => toNat_limb_lt hrange hi) hi

end InRange

theorem limb_canon (v : Nat) {i : Nat} (hi : i < 10) : (canon v).limb i = canonLimb v i := by
  interval_cases i <;> rfl

/-- Limbs in range that stand for a value below p are the canonical form of it (R11). -/
theorem eq_canon {h : FieldElement} (hrange : h.InRange) (hlt : packValue h < fieldPrime) : h = canon (packValue h) :=
  FieldElement.ext_limb fun i hi => by
    rw [limb_canon _ hi, canonLimb, Nat.mod_eq_of_lt hlt, digit_packValue hrange hi, BitVec.ofNat_toNat,
      BitVec.setWidth_eq]

/-! ### FE_REDUCE (R82) -/

/-- R66's third contract: REDUCE leaves the residue's limbs. -/
theorem val_feReduce {f : FieldElement} (hf : f.Bounded 3) : (feReduce f).val = f.val % fieldPrime := by
  obtain ⟨-, hmod⟩ := reduceQuotient_spec hf
  have hrange := feReduce_inRange f
  have hlt := packValue_lt hrange
  have hval := val_feReduce_of_bounded (reduceStart_bounded hf)
  have hprime : (fieldPrime : Int) = 2 ^ 255 - 19 := by decide
  rw [val_eq_packValue hrange, val_reduceStart hf] at hval
  rw [val_eq_packValue hrange]
  rw [hprime] at hmod ⊢
  omega

theorem packValue_feReduce_lt {f : FieldElement} (hf : f.Bounded 3) : packValue (feReduce f) < fieldPrime := by
  have hval := val_feReduce hf
  have hlt := Int.emod_lt_of_pos f.val (b := fieldPrime) (by decide)
  rw [← hval, val_eq_packValue (feReduce_inRange f)] at hlt
  exact_mod_cast hlt

theorem FieldElement.InRange.bounded {f : FieldElement} (hf : f.InRange) : f.Bounded 3 := fun i hi => by
  obtain ⟨hnonneg, hlt⟩ := hf i hi
  rw [abs_of_nonneg hnonneg]
  push_cast
  linarith [show (0 : Int) < 2 ^ limbWidth i by positivity]

/-- Congruent elements of B3 reduce to the same limbs (R87). -/
theorem feReduce_eq_of_congrP {f g : FieldElement} (hf : f.Bounded 3) (hg : g.Bounded 3) (h : CongrP f.val g.val) :
    feReduce f = feReduce g := by
  have hval : (feReduce f).val = (feReduce g).val := by rw [val_feReduce hf, val_feReduce hg, h]
  rw [val_eq_packValue (feReduce_inRange f), val_eq_packValue (feReduce_inRange g)] at hval
  rw [eq_canon (feReduce_inRange f) (packValue_feReduce_lt hf),
    eq_canon (feReduce_inRange g) (packValue_feReduce_lt hg), Nat.cast_inj.mp hval]

/-- Settles O37: in range by the last carry of each limb, canonical because the first loop finds the quotient by p. -/
theorem reduceIsCanonicalInItsDomain : Obligations.ReduceIsCanonicalInItsDomain := by
  constructor
  · intro s rd ra
    rw [← readFr_reg]
    exact ⟨_, finish_writeFr s rd _, rfl, feReduce_inRange _⟩
  · intro f hf
    have hrange := feReduce_inRange f
    have hlt := packValue_feReduce_lt hf
    have hval := val_eq_packValue hrange
    refine ⟨⟨hrange, by omega, by omega⟩, val_feReduce hf, ?_, ?_⟩
    · rw [hval, Int.toNat_natCast]
      exact eq_canon hrange hlt
    · refine feReduce_eq_of_congrP hrange.bounded hf ?_
      rw [CongrP, val_feReduce hf, Int.emod_emod_of_dvd _ dvd_rfl]

end Sys2Proof.Machine
end

section
/-! SUPPORT. PACK bit by bit: bit pos(i) + t of the packed value is bit t of limb i, so a byte is what R71's row
says it is; then the two commands that show the reduced value (R85, R86). -/

namespace Sys2Proof.Machine

/-! ### The bits of the packed value (R71) -/

section InRange

variable {h : FieldElement} (hrange : h.InRange)
include hrange

theorem testBit_packValue {i t : Nat} (hi : i < 10) (ht : t < limbWidth i) :
    (packValue h).testBit (limbPos i + t) = (h.limb i).getLsbD t := by
  rw [BitVec.getLsbD, ← digit_packValue hrange hi, Nat.testBit_mod_two_pow, decide_eq_true ht, Bool.true_and,
    Nat.testBit_div_two_pow, Nat.add_comm]

theorem getLsbD_limb_of_ge {i t : Nat} (hi : i < 10) (ht : limbWidth i ≤ t) : (h.limb i).getLsbD t = false :=
  Nat.testBit_lt_two_pow ((toNat_limb_lt hrange hi).trans_le (Nat.pow_le_pow_right (by decide) ht))

theorem testBit_packValue_of_ge {n : Nat} (hn : 255 ≤ n) : (packValue h).testBit n = false :=
  Nat.testBit_lt_two_pow ((packValue_lt hrange).trans_le (Nat.pow_le_pow_right (by decide) hn))

theorem leint_fePack : (leint (fePack h).toList : Int) = h.val := by
  rw [fePack, leint_leBytes 32 _ ((packValue_lt hrange).trans_le (by decide)), val_eq_packValue hrange]

end InRange

theorem getLsbD_byteAt_fePack (h : FieldElement) {k t : Nat} (hk : k < 32) (ht : t < 8) :
    (byteAt (fePack h) k).getLsbD t = (packValue h).testBit (8 * k + t) := by
  rw [fePack, byteAt_leBytes _ hk, BitVec.getLsbD_ofNat, decide_eq_true ht, Bool.true_and, Nat.testBit_div_two_pow,
    Nat.add_comm]

/-! ### R71's rows -/

/-- A row of R71's table is about its byte: the first limb's bits begin at the byte, and where they end before the byte
does, the second limb's begin (or, past bit 254, there is nothing). -/
def packRowFits (k : Nat) : (Nat × Nat) × Option (Nat × Nat) → Bool
  | ((a, sa), none) => decide (a < 10 ∧ 8 * k = limbPos a + sa ∧ (sa + 8 ≤ limbWidth a ∨ a = 9))
  | ((a, sa), some (b, sb)) => decide (a < 10 ∧ 8 * k = limbPos a + sa ∧ b = a + 1 ∧ b < 10 ∧ sa + sb = limbWidth a
      ∧ 8 ≤ sb + limbWidth b)

theorem packRows_fit : ∀ k < 32, ∃ row, packTable[k]? = some row ∧ packRowFits k row = true := by
  intro k hk
  refine ⟨packTable[k], List.getElem?_eq_getElem hk, ?_⟩
  revert k
  decide

theorem getLsbD_packTableByte {h : FieldElement} (hrange : h.InRange) {k t : Nat} (hk : k < 32) (ht : t < 8) :
    (packTableByte h k).getLsbD t = (packValue h).testBit (8 * k + t) := by
  obtain ⟨⟨⟨a, sa⟩, second⟩, hrow, hfits⟩ := packRows_fit k hk
  unfold packTableByte
  rw [hrow]
  cases second with
  | none =>
    obtain ⟨ha, hpos, hwidth⟩ := of_decide_eq_true hfits
    simp only [BitVec.getLsbD_setWidth, BitVec.getLsbD_ushiftRight, decide_eq_true ht, Bool.true_and]
    rw [hpos, Nat.add_assoc]
    rcases Nat.lt_or_ge (sa + t) (limbWidth a) with hin | hout
    · rw [testBit_packValue hrange ha hin]
    · obtain rfl : a = 9 := by omega
      rw [getLsbD_limb_of_ge hrange ha hout, testBit_packValue_of_ge hrange]
      change 25 ≤ _ at hout
      change 255 ≤ 230 + _
      omega
  | some next =>
    obtain ⟨b, sb⟩ := next
    obtain ⟨ha, hpos, rfl, hb, hsplit, hwidth⟩ := of_decide_eq_true hfits
    simp only [BitVec.getLsbD_setWidth, BitVec.getLsbD_or, BitVec.getLsbD_ushiftRight, BitVec.getLsbD_shiftLeft,
      decide_eq_true ht, decide_eq_true (by omega : t < 32), Bool.true_and]
    rw [hpos, Nat.add_assoc]
    rcases Nat.lt_or_ge t sb with hin | hout
    · rw [testBit_packValue hrange ha (by omega), decide_eq_true hin, Bool.not_true, Bool.false_and, Bool.or_false]
    · rw [getLsbD_limb_of_ge hrange ha (by omega), decide_eq_false (by omega), Bool.not_false, Bool.true_and,
        Bool.false_or, ← testBit_packValue hrange hb (by omega), limbPos_succ]
      congr 1
      omega

/-- Settles O38: PACK's byte and the table's row have the same bits of the packed value. -/
theorem packTableGivesTheBytes : Obligations.PackTableGivesTheBytes := fun h hrange =>
  ⟨leint_fePack hrange,
    fun k hk => BitVec.eq_of_getLsbD_eq fun t ht => by
      rw [getLsbD_byteAt_fePack h hk ht, getLsbD_packTableByte hrange hk ht],
    by rw [getLsbD_byteAt_fePack h (by decide) (by decide), testBit_packValue_of_ge hrange (by decide)]⟩

/-! ### FE_ISNEG and FE_TOBYTES -/

/-- The parity of limb 0 is that of the value. -/
theorem getLsbD_zero_eq_parity {h : FieldElement} (hrange : h.InRange) :
    h.l0.getLsbD 0 = decide (h.val % 2 = 1) := by
  have hbit := testBit_packValue hrange (i := 0) (t := 0) (by decide) (by decide)
  change (packValue h).testBit 0 = h.l0.getLsbD 0 at hbit
  rw [← hbit, Nat.testBit_zero, val_eq_packValue hrange, decide_eq_decide]
  omega

/-- Settles O39: REDUCE's limbs are in range for every source, so their parity and bytes are the value's. -/
theorem signAndBytesAreOfTheReducedValue : Obligations.SignAndBytesAreOfTheReducedValue := by
  intro s ra
  rw [← readFr_reg, ← getLsbD_zero_eq_parity (feReduce_inRange _)]
  exact ⟨rfl, _, rfl, leint_fePack (feReduce_inRange _)⟩

end Sys2Proof.Machine
end

section
/-! SUPPORT. The inversion chain as powers: what a tight element denotes, carried along squarings and products by adding
exponents, so that the chain ends at 2^255 - 21 (R72). -/

namespace Sys2Proof.Machine

/-! ### The chain, line by line -/

@[simp] theorem feSqn_zero (x : FieldElement) : feSqn x 0 = x := rfl

@[simp] theorem feSqn_succ (x : FieldElement) (n : Nat) : feSqn x (n + 1) = feSqn (feSq x) n := by
  rw [feSqn.eq_def]

theorem feSqn_eq_iterate (x : FieldElement) (n : Nat) : feSqn x n = feSq^[n] x := by
  induction n generalizing x with
  | zero => rfl
  | succ n ih => rw [feSqn_succ, ih, Function.iterate_succ_apply]

/-! ### Powers -/

/-- Class T lies in B1, so in B3 (R66). -/
theorem FieldElement.Tight.bounded {f : FieldElement} (hf : f.Tight) : f.Bounded 3 := fun i hi => by
  have hle : ∀ i < 10, (tightBound i : Int) ≤ (3 : Nat) * 2 ^ limbWidth i := by decide
  exact ((tight_iff f).mp hf i hi).trans (hle i hi)

/-- `f` is in class T and denotes the power `e` of what z denotes. -/
def DenotesPower (z : Int) (e : Nat) (f : FieldElement) : Prop := f.Tight ∧ CongrP f.val (z ^ e)

section Power

variable {z : Int}

theorem DenotesPower.of_mul {f g : FieldElement} {d e : Nat} (hf : f.Bounded 3) (hg : g.Bounded 3)
    (hfd : CongrP f.val (z ^ d)) (hge : CongrP g.val (z ^ e)) : DenotesPower z (d + e) (feMul f g) := by
  obtain ⟨htight, hcongr⟩ := feMul_spec hf hg
  refine ⟨htight, hcongr.trans ?_⟩
  rw [pow_add]
  exact Int.ModEq.mul hfd hge

theorem DenotesPower.mul {f g : FieldElement} {d e : Nat} (hf : DenotesPower z d f) (hg : DenotesPower z e g) :
    DenotesPower z (d + e) (feMul f g) :=
  .of_mul hf.1.bounded hg.1.bounded hf.2 hg.2

theorem DenotesPower.sqn {f : FieldElement} {e : Nat} (hf : DenotesPower z e f) (n : Nat) :
    DenotesPower z (2 ^ n * e) (feSqn f n) := by
  induction n generalizing f e with
  | zero =>
    rw [pow_zero, one_mul, feSqn_zero]
    exact hf
  | succ n ih =>
    rw [pow_succ, mul_assoc, two_mul, feSqn_succ, feSq_eq_feMul]
    exact ih (hf.mul hf)

end Power

/-- The chain's exponents, from z to z^(2^255-21) (R72). -/
theorem feInvert_denotesPower {z : FieldElement} (hz : z.Bounded 3) :
    DenotesPower z.val (2 ^ 255 - 21) (feInvert z) := by
  have hbase : CongrP z.val (z.val ^ 1) := by rw [pow_one]; rfl
  have z2 : DenotesPower z.val 2 (feSq z) := .of_mul hz hz hbase hbase
  have z9 : DenotesPower z.val 9 _ := .of_mul hz (z2.sqn 2).1.bounded hbase (z2.sqn 2).2
  have z11 : DenotesPower z.val 11 _ := z2.mul z9
  have z31 : DenotesPower z.val 31 _ := z9.mul (z11.sqn 1)
  have z10 : DenotesPower z.val (2 ^ 10 - 1) _ := (z31.sqn 5).mul z31
  have z20 : DenotesPower z.val (2 ^ 20 - 1) _ := (z10.sqn 10).mul z10
  have z40 : DenotesPower z.val (2 ^ 40 - 1) _ := (z20.sqn 20).mul z20
  have z50 : DenotesPower z.val (2 ^ 50 - 1) _ := (z40.sqn 10).mul z10
  have z100 : DenotesPower z.val (2 ^ 100 - 1) _ := (z50.sqn 50).mul z50
  have z200 : DenotesPower z.val (2 ^ 200 - 1) _ := (z100.sqn 100).mul z100
  have z250 : DenotesPower z.val (2 ^ 250 - 1) _ := (z200.sqn 50).mul z50
  exact (z250.sqn 5).mul z11

/-! ### FE_INV (R83) -/

theorem congrP_zero_of_pow {z : FieldElement} {e : Nat} {f : FieldElement} (he : e ≠ 0) (hf : DenotesPower z.val e f)
    (hz : CongrP z.val 0) : CongrP f.val 0 := by
  have hpow := Int.ModEq.pow e hz
  rw [zero_pow he] at hpow
  exact hf.2.trans hpow

/-- Settles O40: the chain's lines are the model's, and their exponents add up to 2^255 - 21. -/
theorem invertIsThePowerPMinusTwo : Obligations.InvertIsThePowerPMinusTwo := by
  intro s rd ra
  rw [← readFr_reg]
  refine ⟨feInvert (s.readFr ra.val), finish_writeFr s rd _, rfl, ?_, feInvert_denotesPower,
    fun hz => congrP_zero_of_pow (by decide) (feInvert_denotesPower hz)⟩
  simp only [feInvert, feSqn_eq_iterate]

end Sys2Proof.Machine
end

section
/-! SUPPORT. p = 2^255 - 19 is prime, by Lucas certificates down a tree of factors of p - 1; so the power that FE_INV
gives is the inverse (R83, R87). -/

namespace Sys2Proof.Machine

/-! ### Lucas certificates -/

/-- b^e mod m by repeated squaring, for e below 2^fuel. -/
def modPow (m b e : Nat) : Nat → Nat
  | 0 => 1
  | fuel + 1 =>
    if e % 2 = 1 then b * modPow m (b * b % m) (e / 2) fuel % m else modPow m (b * b % m) (e / 2) fuel

theorem cast_modPow (m b e fuel : Nat) (he : e < 2 ^ fuel) : (modPow m b e fuel : ZMod m) = (b : ZMod m) ^ e := by
  induction fuel generalizing b e with
  | zero =>
    obtain rfl : e = 0 := by omega
    simp [modPow]
  | succ fuel ih =>
    have hhalf := ih (b * b % m) (e / 2) (by omega)
    rw [ZMod.natCast_mod, Nat.cast_mul, ← sq (b : ZMod m), ← pow_mul] at hhalf
    rw [modPow]
    split
    · next hodd =>
      rw [ZMod.natCast_mod, Nat.cast_mul, hhalf, ← pow_succ', show 2 * (e / 2) + 1 = e by omega]
    · next heven =>
      rw [hhalf, show 2 * (e / 2) = e by omega]

/-- `a` generates the units modulo `p`, judged by the prime factors `qs` of p - 1, multiplicities included. -/
def lucasCertificate (p a : Nat) (qs : List Nat) : Bool :=
  decide (p < 2 ^ 256 ∧ p - 1 = qs.prod ∧ modPow p a (p - 1) 256 % p = 1 % p
    ∧ ∀ q ∈ qs, modPow p a ((p - 1) / q) 256 % p ≠ 1 % p)

/-- A certificate over primes proves primality. -/
theorem prime_of_lucasCertificate {p : Nat} (a : Nat) (qs : List Nat) (hqs : ∀ q ∈ qs, q.Prime)
    (h : lucasCertificate p a qs = true) : p.Prime := by
  obtain ⟨hlt, hprod, hone, hne⟩ := of_decide_eq_true h
  have hpow : ∀ e, e ≤ p - 1 → ((a : ZMod p) ^ e = 1 ↔ modPow p a e 256 % p = 1 % p) := fun e he => by
    rw [← cast_modPow p a e 256 (by omega), ← Nat.cast_one, ZMod.natCast_eq_natCast_iff']
  refine lucas_primality p a ((hpow _ le_rfl).mpr hone) fun q hq hdvd => ?_
  rw [hprod] at hdvd
  have hmem : q ∈ qs := mem_list_primes_of_dvd_prod hq.prime (fun q hq => (hqs q hq).prime) hdvd
  rw [Ne, hpow _ (Nat.div_le_self _ _)]
  exact hne q hmem

/-! ### The tree of factors -/

theorem prime_2773320623 : Nat.Prime 2773320623 :=
  prime_of_lucasCertificate 5 [2, 2437, 569003] (by norm_num) (by decide +kernel)

theorem prime_72106336199 : Nat.Prime 72106336199 :=
  prime_of_lucasCertificate 7 [2, 13, 2773320623]
    (by simp only [List.forall_mem_cons, prime_2773320623]; norm_num) (by decide +kernel)

theorem prime_1919519569386763 : Nat.Prime 1919519569386763 :=
  prime_of_lucasCertificate 2 [2, 3, 7, 19, 47, 47, 127, 8574133] (by norm_num) (by decide +kernel)

theorem prime_31757755568855353 : Nat.Prime 31757755568855353 :=
  prime_of_lucasCertificate 10 [2, 2, 2, 3, 31, 107, 223, 4153, 430751] (by norm_num) (by decide +kernel)

theorem prime_75445702479781427272750846543864801 : Nat.Prime 75445702479781427272750846543864801 :=
  prime_of_lucasCertificate 7 [2, 2, 2, 2, 2, 3, 3, 5, 5, 75707, 72106336199, 1919519569386763]
    (by simp only [List.forall_mem_cons, prime_72106336199, prime_1919519569386763]; norm_num) (by decide +kernel)

theorem prime_74058212732561358302231226437062788676166966415465897661863160754340907 :
    Nat.Prime 74058212732561358302231226437062788676166966415465897661863160754340907 :=
  prime_of_lucasCertificate 2
    [2, 3, 353, 57467, 132049, 1923133, 31757755568855353, 75445702479781427272750846543864801]
    (by
      simp only [List.forall_mem_cons, prime_31757755568855353, prime_75445702479781427272750846543864801]
      norm_num)
    (by decide +kernel)

theorem prime_fieldPrime : Nat.Prime fieldPrime :=
  prime_of_lucasCertificate 2
    [2, 2, 3, 65147, 74058212732561358302231226437062788676166966415465897661863160754340907]
    (by
      simp only [List.forall_mem_cons, prime_74058212732561358302231226437062788676166966415465897661863160754340907]
      norm_num)
    (by decide +kernel)

/-! ### The inverse (R83) -/

theorem feOne_val : feOne.val = 1 := by decide

theorem feOne_bounded : feOne.Bounded 3 := by
  have : ∀ i < 10, |feOne.int i| ≤ ((3 : Nat) : Int) * 2 ^ limbWidth i := by decide
  exact this

theorem feReduce_feOne : feReduce feOne = feOne := by decide +kernel

/-- Fermat: a times its power p - 2 is 1 mod p, unless a is 0. -/
theorem mul_pow_congrP_one {a : Int} (ha : ¬ CongrP a 0) : CongrP (a * a ^ (2 ^ 255 - 21)) 1 := by
  have hcoprime : IsCoprime a fieldPrime := by
    rw [isCoprime_comm, (Nat.prime_iff_prime_int.mp prime_fieldPrime).coprime_iff_not_dvd]
    exact fun hdvd => ha (Int.modEq_zero_iff_dvd.mpr hdvd)
  have hfermat := Int.ModEq.pow_card_sub_one_eq_one prime_fieldPrime hcoprime
  rw [← pow_succ']
  exact hfermat

/-- R87's second law: a product congruent to 1 reduces to the limbs of 1. -/
theorem inverseTimesElementReducesToOne : Obligations.InverseTimesElementReducesToOne := by
  intro a ha hne
  obtain ⟨htight, hpower⟩ := feInvert_denotesPower ha
  obtain ⟨hproduct, hval⟩ := feMul_spec ha htight.bounded
  have hone : CongrP (feMul a (feInvert a)).val feOne.val := by
    rw [feOne_val]
    exact hval.trans ((Int.ModEq.mul_left _ hpower).trans (mul_pow_congrP_one hne))
  rw [feReduce_eq_of_congrP hproduct.bounded feOne_bounded hone, feReduce_feOne]

end Sys2Proof.Machine
end

section
/-! SUPPORT. What a group command leaves where its groups fit (R17), and the identity and the copy of coordinates
(R93, R98). -/

namespace Sys2Proof.Machine

/-! ### What a group command leaves -/

/-- A command whose guard holds completes with what its rule wrote (R34). -/
theorem finish_guard {s t : State} {c : Prop} [Decidable c] {e : ErrorCode} (hc : c) :
    finish s (if c then .ok t else .error e) = .next (t.complete .none) := by
  rw [if_pos hc, finish_eq, State.conclude_ok]

/-- A write of a group of three changes FR alone. -/
theorem writeGroup3_eq (s : State) (rd : Reg) (a b c : FieldElement) : s.writeGroup3 rd a b c = { s with
    fr := ((s.fr.setIfInBounds rd.val a).setIfInBounds (rd.val + 1) b).setIfInBounds (rd.val + 2) c } := rfl

/-- A write of a group of four changes FR alone. -/
theorem writeGroup4_eq (s : State) (rd : Reg) (a b c d : FieldElement) : s.writeGroup4 rd a b c d = { s with
    fr := (((s.fr.setIfInBounds rd.val a).setIfInBounds (rd.val + 1) b).setIfInBounds (rd.val + 2)
      c).setIfInBounds (rd.val + 3) d } := by
  rw [State.writeGroup4, writeGroup3_eq, State.writeFr]

section Guard

variable (s : State) (rd : Reg) {c : Prop} [Decidable c] {e : ErrorCode} (hc : c)
include hc

/-- A command whose groups fit and whose result is G(rd, 3) completes with that group and STATUS changed, and nothing
else (R34). -/
theorem finish_writeGroup3 (f g h : FieldElement) :
    finish s (if c then .ok (s.writeGroup3 rd f g h) else .error e) = .next { s with
      fr := ((s.fr.setIfInBounds rd.val f).setIfInBounds (rd.val + 1) g).setIfInBounds (rd.val + 2) h,
      err := .none, phase := .idle, done := true } := by
  rw [finish_guard hc, writeGroup3_eq, State.complete]

/-- The same for a result G(rd, 4). -/
theorem finish_writeGroup4 (f g h k : FieldElement) :
    finish s (if c then .ok (s.writeGroup4 rd f g h k) else .error e) = .next { s with
      fr := (((s.fr.setIfInBounds rd.val f).setIfInBounds (rd.val + 1) g).setIfInBounds (rd.val + 2)
        h).setIfInBounds (rd.val + 3) k,
      err := .none, phase := .idle, done := true } := by
  rw [finish_guard hc, writeGroup4_eq, State.complete]

end Guard

theorem groupFits_of_le {r : Reg} {k : Nat} (hr : r.val ≤ 32 - k) (hk : k ≤ 32 := by decide) :
    groupFits r k = true :=
  (groupFits_iff r k).mpr (by omega)

theorem groupsFit_of_le {r q : Reg} {k l : Nat} (hr : r.val ≤ 32 - k) (hq : q.val ≤ 32 - l)
    (hk : k ≤ 32 := by decide) (hl : l ≤ 32 := by decide) : (groupFits r k && groupFits q l) = true :=
  Bool.and_eq_true_iff.mpr ⟨groupFits_of_le hr hk, groupFits_of_le hq hl⟩

/-- Settles O42: both commands write their group as it stands. -/
theorem identityAndE2PWriteTheirGroups : Obligations.IdentityAndE2PWriteTheirGroups :=
  ⟨fun s rd hd => finish_writeGroup4 s rd (groupFits_of_le hd) _ _ _ _,
    fun s rd _ hd ha => finish_writeGroup3 s rd (groupsFit_of_le hd ha) _ _ _⟩

end Sys2Proof.Machine
end

section
/-! SUPPORT. Bounds and values carried together through the field unit's functions (R66, R67), and with them the group
formulas on values (spec/41_group.md §2). -/

namespace Sys2Proof.Machine

/-! ### Sums and differences that do not wrap (R67) -/

section Limbwise

variable {f g : FieldElement} {β γ : Nat} (hf : f.Bounded β) (hg : g.Bounded γ) (hsum : β + γ < 32)
include hf hg

theorem abs_int_add_abs_int_le {i : Nat} (hi : i < 10) :
    |f.int i| + |g.int i| ≤ (β + γ : Nat) * 2 ^ limbWidth i := by
  rw [Nat.cast_add, add_mul]
  exact add_le_add (hf i hi) (hg i hi)

include hsum

theorem abs_int_add_abs_int_lt {i : Nat} (hi : i < 10) : |f.int i| + |g.int i| < 2 ^ 31 := by
  have hle := abs_int_add_abs_int_le hf hg hi
  rcases limbWidth_cases i with hw | hw <;> rw [hw] at hle <;> omega

theorem int_feAdd_of_bounded {i : Nat} (hi : i < 10) : (feAdd f g).int i = f.int i + g.int i := by
  rw [int_feAdd f g hi, s32_of_abs_lt ((abs_add_le _ _).trans_lt (abs_int_add_abs_int_lt hf hg hsum hi))]

theorem int_feSub_of_bounded {i : Nat} (hi : i < 10) : (feSub f g).int i = f.int i - g.int i := by
  rw [int_feSub f g hi, s32_of_abs_lt ((abs_sub _ _).trans_lt (abs_int_add_abs_int_lt hf hg hsum hi))]

theorem feAdd_bounded : (feAdd f g).Bounded (β + γ) := fun i hi => by
  rw [int_feAdd_of_bounded hf hg hsum hi]
  exact (abs_add_le _ _).trans (abs_int_add_abs_int_le hf hg hi)

theorem feSub_bounded : (feSub f g).Bounded (β + γ) := fun i hi => by
  rw [int_feSub_of_bounded hf hg hsum hi]
  exact (abs_sub _ _).trans (abs_int_add_abs_int_le hf hg hi)

theorem val_feAdd : (feAdd f g).val = f.val + g.val := by
  simp only [FieldElement.val_eq_sum, ← Finset.sum_add_distrib, ← add_mul]
  exact Finset.sum_congr rfl fun i hi => by rw [int_feAdd_of_bounded hf hg hsum (Finset.mem_range.mp hi)]

theorem val_feSub : (feSub f g).val = f.val - g.val := by
  simp only [FieldElement.val_eq_sum, ← Finset.sum_sub_distrib, ← sub_mul]
  exact Finset.sum_congr rfl fun i hi => by rw [int_feSub_of_bounded hf hg hsum (Finset.mem_range.mp hi)]

end Limbwise

/-! ### What an element denotes -/

/-- `f` is β-bounded and denotes v mod p. -/
structure Denotes (β : Nat) (v : Int) (f : FieldElement) : Prop where
  bounded : f.Bounded β
  congr : CongrP f.val v

/-- Class T lies in B1 (R66). -/
theorem FieldElement.Tight.bounded_one {f : FieldElement} (hf : f.Tight) : f.Bounded 1 := fun i hi => by
  have hle : ∀ i < 10, (tightBound i : Int) ≤ (1 : Nat) * 2 ^ limbWidth i := by decide
  exact ((tight_iff f).mp hf i hi).trans (hle i hi)

theorem FieldElement.Bounded.denotes {f : FieldElement} {β : Nat} (hf : f.Bounded β) : Denotes β f.val f := ⟨hf, rfl⟩

section Denotes

variable {f g : FieldElement} {β γ : Nat} {v w : Int}

theorem Denotes.congr_of_eq (hf : Denotes β v f) (h : v = w) : CongrP f.val w := h ▸ hf.congr

theorem Denotes.add (hf : Denotes β v f) (hg : Denotes γ w g) (hsum : β + γ < 32 := by decide) :
    Denotes (β + γ) (v + w) (feAdd f g) :=
  ⟨feAdd_bounded hf.bounded hg.bounded hsum,
    (val_feAdd hf.bounded hg.bounded hsum).symm ▸ Int.ModEq.add hf.congr hg.congr⟩

theorem Denotes.sub (hf : Denotes β v f) (hg : Denotes γ w g) (hsum : β + γ < 32 := by decide) :
    Denotes (β + γ) (v - w) (feSub f g) :=
  ⟨feSub_bounded hf.bounded hg.bounded hsum,
    (val_feSub hf.bounded hg.bounded hsum).symm ▸ Int.ModEq.sub hf.congr hg.congr⟩

theorem Denotes.mul (hf : Denotes β v f) (hg : Denotes γ w g) (hβ : β ≤ 3 := by decide) (hγ : γ ≤ 3 := by decide) :
    Denotes 1 (v * w) (feMul f g) := by
  obtain ⟨htight, hcongr⟩ := feMul_spec (hf.bounded.mono hβ) (hg.bounded.mono hγ)
  exact ⟨htight.bounded_one, hcongr.trans (Int.ModEq.mul hf.congr hg.congr)⟩

theorem Denotes.sq (hf : Denotes β v f) (hβ : β ≤ 3 := by decide) : Denotes 1 (v * v) (feSq f) :=
  hf.mul hf hβ hβ

theorem Denotes.sq2 (hf : Denotes β v f) (hβ : β ≤ 2 := by decide) : Denotes 1 (2 * v ^ 2) (feSq2 f) := by
  obtain ⟨htight, hcongr⟩ := feSq2_spec (hf.bounded.mono hβ)
  exact ⟨htight.bounded_one, hcongr.trans ((Int.ModEq.pow 2 hf.congr).mul_left 2)⟩

end Denotes

/-! ### Doubling (R94) -/

/-- The doubling formula on values. -/
theorem pointDouble_congr {p : Projective} {x y z : Int} (hx : Denotes 1 x p.x) (hy : Denotes 1 y p.y)
    (hz : Denotes 1 z p.z) :
    CongrP (pointDouble p).x.val (2 * x * y) ∧ CongrP (pointDouble p).y.val (y ^ 2 + x ^ 2)
      ∧ CongrP (pointDouble p).z.val (y ^ 2 - x ^ 2)
      ∧ CongrP (pointDouble p).t.val (2 * z ^ 2 - (y ^ 2 - x ^ 2)) := by
  have hy3 := hy.sq.add hx.sq
  have hz3 := hy.sq.sub hx.sq
  have hx3 := (hx.add hy).sq.sub hy3
  have ht3 := hz.sq2.sub hz3
  exact ⟨hx3.congr_of_eq (by ring), hy3.congr_of_eq (by ring), hz3.congr_of_eq (by ring), ht3.congr_of_eq (by ring)⟩

/-- Settles O43: the limbs are `pointDouble`'s, and no sum on the way wraps. -/
theorem doublingFormulaOnValues : Obligations.DoublingFormulaOnValues := by
  intro s rd ra hd ha
  exact ⟨_, _, _, _, finish_writeGroup4 s rd (groupsFit_of_le hd ha) _ _ _ _, rfl, rfl, rfl, rfl, fun hx hy hz =>
    pointDouble_congr (p := s.readProjective ra) hx.denotes hy.denotes hz.denotes⟩

/-! ### Mixed addition (R95) -/

/-- The mixed addition on values, for any residues that the operands denote. -/
theorem pointMadd_congr {p : Extended} {q : Precomp} {x y z t ypx ymx xy2d : Int} (hx : Denotes 1 x p.x)
    (hy : Denotes 1 y p.y) (hz : Denotes 1 z p.z) (ht : Denotes 1 t p.t) (hypx : Denotes 1 ypx q.ypx)
    (hymx : Denotes 1 ymx q.ymx) (hxy2d : Denotes 1 xy2d q.xy2d) :
    CongrP (pointMadd p q).x.val ((y + x) * ypx - (y - x) * ymx)
      ∧ CongrP (pointMadd p q).y.val ((y + x) * ypx + (y - x) * ymx)
      ∧ CongrP (pointMadd p q).z.val (2 * z + xy2d * t) ∧ CongrP (pointMadd p q).t.val (2 * z - xy2d * t) := by
  have ha := (hy.add hx).mul hypx
  have hb := (hy.sub hx).mul hymx
  have hc := hxy2d.mul ht
  have hd := hz.add hz
  exact ⟨(ha.sub hb).congr, (ha.add hb).congr, (hd.add hc).congr_of_eq (by ring), (hd.sub hc).congr_of_eq (by ring)⟩

/-- The Edwards addition law, for a precomputed operand (R90, R103). -/
theorem pointMadd_congr_edwards {p : Extended} {q : Precomp} {x y z t d x2 y2 : Int} (hx : Denotes 1 x p.x)
    (hy : Denotes 1 y p.y) (hz : Denotes 1 z p.z) (ht : Denotes 1 t p.t) (hypx : Denotes 1 (y2 + x2) q.ypx)
    (hymx : Denotes 1 (y2 - x2) q.ymx) (hxy2d : Denotes 1 (2 * d * x2 * y2) q.xy2d) :
    CongrP (pointMadd p q).x.val (2 * (x * y2 + y * x2)) ∧ CongrP (pointMadd p q).y.val (2 * (y * y2 + x * x2))
      ∧ CongrP (pointMadd p q).z.val (2 * (z + d * x2 * y2 * t))
      ∧ CongrP (pointMadd p q).t.val (2 * (z - d * x2 * y2 * t)) := by
  have hnumX : (y + x) * (y2 + x2) - (y - x) * (y2 - x2) = 2 * (x * y2 + y * x2) := by ring
  have hnumY : (y + x) * (y2 + x2) + (y - x) * (y2 - x2) = 2 * (y * y2 + x * x2) := by ring
  have hdenX : 2 * z + 2 * d * x2 * y2 * t = 2 * (z + d * x2 * y2 * t) := by ring
  have hdenY : 2 * z - 2 * d * x2 * y2 * t = 2 * (z - d * x2 * y2 * t) := by ring
  rw [← hnumX, ← hnumY, ← hdenX, ← hdenY]
  exact pointMadd_congr hx hy hz ht hypx hymx hxy2d

/-- Settles O44: the limbs are `pointMadd`'s, and no sum on the way wraps. -/
theorem mixedAdditionFormulaOnValues : Obligations.MixedAdditionFormulaOnValues := by
  intro s rd ra rb hd ha hb
  have hfits : (groupFits rd 4 && groupFits ra 4 && groupFits rb 3) = true :=
    Bool.and_eq_true_iff.mpr ⟨groupsFit_of_le hd ha, groupFits_of_le hb⟩
  refine ⟨_, _, _, _, finish_writeGroup4 s rd hfits _ _ _ _, rfl, rfl, rfl, rfl, fun hp hq => ?_⟩
  have hx := (hp 0 (by decide)).denotes
  have hy := (hp 1 (by decide)).denotes
  have hz := (hp 2 (by decide)).denotes
  have ht := (hp 3 (by decide)).denotes
  have hypx := hq 0 (by decide)
  have hymx := hq 1 (by decide)
  have hxy2d := hq 2 (by decide)
  obtain ⟨hx3, hy3, hz3, ht3⟩ := pointMadd_congr (p := s.readExtended ra) (q := s.readPrecomp rb) hx hy hz ht
    hypx.denotes hymx.denotes hxy2d.denotes
  exact ⟨hx3, hy3, hz3, ht3, fun x2 y2 cypx cymx cxy2d =>
    pointMadd_congr_edwards (p := s.readExtended ra) (q := s.readPrecomp rb) hx hy hz ht
      ⟨hypx, cypx⟩ ⟨hymx, cymx⟩ ⟨hxy2d, cxy2d⟩⟩

/-! ### Conversions (R96, R97) -/

/-- An extended point made from a completed one is valid: both products are X·Y·Z·T. -/
theorem completedToExtended_valid {p : Completed} (hx : p.x.Bounded 3) (hy : p.y.Bounded 3) (hz : p.z.Bounded 3)
    (ht : p.t.Bounded 3) :
    CongrP ((completedToExtended p).x.val * (completedToExtended p).y.val)
      ((completedToExtended p).z.val * (completedToExtended p).t.val) := by
  have hxy := Int.ModEq.mul (hx.denotes.mul ht.denotes).congr (hy.denotes.mul hz.denotes).congr
  have hzt := Int.ModEq.mul (hz.denotes.mul ht.denotes).congr (hx.denotes.mul hy.denotes).congr
  have hmid : p.x.val * p.t.val * (p.y.val * p.z.val) = p.z.val * p.t.val * (p.x.val * p.y.val) := by ring
  rw [hmid] at hxy
  exact hxy.trans hzt.symm

/-- Settles O45: the products are the conversions' own, and X·T·Y·Z = Z·T·X·Y. -/
theorem conversionsMultiplyCoordinates : Obligations.ConversionsMultiplyCoordinates := by
  constructor
  · intro s rd ra hd ha
    exact finish_writeGroup3 s rd (groupsFit_of_le hd ha) _ _ _
  · intro s rd ra hd ha
    refine ⟨_, _, _, _, finish_writeGroup4 s rd (groupsFit_of_le hd ha) _ _ _ _, rfl, rfl, rfl, rfl, fun hp => ?_⟩
    exact completedToExtended_valid (p := s.readCompleted ra) (hp 0 (by decide)) (hp 1 (by decide)) (hp 2 (by decide))
      (hp 3 (by decide))

end Sys2Proof.Machine
end

section
/-! SUPPORT. The affine encoding: a byte set in a little-endian integer, and the sign bit above the 255 bits of a
reduced value (R99). -/

namespace Sys2Proof.Machine

/-! ### The sign bit in the bytes -/

/-- A byte set at place k trades the old byte's weight for the new one's (R9). -/
theorem leint_set (bs : List Byte) {k : Nat} (hk : k < bs.length) (b : Byte) :
    leint (bs.set k b) + 256 ^ k * bs[k].toNat = leint bs + 256 ^ k * b.toNat := by
  induction bs generalizing k with
  | nil => cases hk
  | cons c cs ih =>
    cases k with
    | zero =>
      simp only [List.set_cons_zero, List.getElem_cons_zero, leint]
      omega
    | succ k =>
      have hcs := ih (Nat.lt_of_succ_lt_succ hk)
      simp only [List.set_cons_succ, List.getElem_cons_succ, leint, pow_succ']
      linarith

/-- The sign XORed into a clear bit 7 is added there. -/
theorem toNat_xor_sign : ∀ b : Bool, ∀ x : Byte, x.getLsbD 7 = false →
    (x ^^^ ((BitVec.ofBool b).setWidth 8 <<< 7)).toNat = x.toNat + 2 ^ 7 * b.toNat := by
  decide +kernel

/-- The sign XORed into a clear bit 255 of 32 bytes is added there. -/
theorem leint_xor_sign {x : Vector Byte 32} (htop : (byteAt x 31).getLsbD 7 = false) (b : Bool) :
    leint (x.setIfInBounds 31 (byteAt x 31 ^^^ ((BitVec.ofBool b).setWidth 8 <<< 7))).toList
      = leint x.toList + 2 ^ 255 * b.toNat := by
  have hset := leint_set x.toList (k := 31) (by simp) (byteAt x 31 ^^^ ((BitVec.ofBool b).setWidth 8 <<< 7))
  rw [Vector.getElem_toList, ← byteAt_eq_getElem _ (by decide), toNat_xor_sign b _ htop] at hset
  rw [Vector.toList_setIfInBounds]
  omega

/-- PACK of limbs in range leaves bit 255 clear. -/
theorem getLsbD_top_fePack {h : FieldElement} (hrange : h.InRange) : (byteAt (fePack h) 31).getLsbD 7 = false := by
  rw [getLsbD_byteAt_fePack h (by decide) (by decide), testBit_packValue_of_ge hrange (by decide)]

/-- The sign of an element, as the parity of its reduced value (R85). -/
theorem toNat_feIsNegative (f : FieldElement) : ((feIsNegative f).toNat : Int) = (feReduce f).val % 2 := by
  rw [feIsNegative, getLsbD_zero_eq_parity (feReduce_inRange f)]
  rcases Int.emod_two_eq_zero_or_one (feReduce f).val with heven | hodd
  · rw [heven]; rfl
  · rw [hodd]; rfl

/-! ### The encoding (R99) -/

/-- The bytes of an encoding, as an integer. -/
theorem leint_pointEncode (p : Projective) : (leint (pointEncode p).toList : Int) =
    (feReduce (feMul p.y (feInvert p.z))).val + 2 ^ 255 * ((feReduce (feMul p.x (feInvert p.z))).val % 2) := by
  have hrange := feReduce_inRange (feMul p.y (feInvert p.z))
  rw [pointEncode, feToBytes, leint_xor_sign (getLsbD_top_fePack hrange), Nat.cast_add, leint_fePack hrange,
    Nat.cast_mul, toNat_feIsNegative]
  rfl

/-- Settles O46: the sign goes into the bit that the 255 bits of the reduced y leave clear. -/
theorem encodePacksYAndTheSignOfX : Obligations.EncodePacksYAndTheSignOfX := fun s ra ha =>
  ⟨_, finish_guard (groupFits_of_le ha), leint_pointEncode (s.readProjective ra)⟩

end Sys2Proof.Machine
end

section
/-! SUPPORT. Clamping: the bytes of a little-endian integer read back from it, and what the clamp of bytes 0 and 31
makes of the scalar (spec/42_scalarmult.md §2). -/

namespace Sys2Proof.Machine

/-! ### Bytes of a little-endian integer (R9) -/

/-- Byte k is digit k of the integer to the base 256. -/
theorem leint_div_mod (bs : List Byte) {k : Nat} (hk : k < bs.length) : leint bs / 256 ^ k % 256 = bs[k].toNat := by
  induction bs generalizing k with
  | nil => cases hk
  | cons b bs ih =>
    have hb : b.toNat < 256 := b.isLt
    cases k with
    | zero =>
      rw [leint, List.getElem_cons_zero]
      omega
    | succ k =>
      have htail : leint (b :: bs) / 256 = leint bs := by
        rw [leint]
        omega
      rw [pow_succ', ← Nat.div_div_eq_div_mul, htail, List.getElem_cons_succ, ih (Nat.lt_of_succ_lt_succ hk)]

theorem leint_toList_div_mod {n : Nat} (x : Vector Byte n) {k : Nat} (hk : k < n) :
    leint x.toList / 256 ^ k % 256 = (byteAt x k).toNat := by
  rw [leint_div_mod x.toList (by simpa using hk), Vector.getElem_toList, byteAt_eq_getElem x hk]

/-! ### The bytes of the clamped scalar (R104) -/

theorem byteAt_clamp_zero (a : Vector Byte 32) : byteAt (clamp a) 0 = byteAt a 0 &&& 0xF8#8 := by
  rw [clamp, byteAt_set_other _ _ (by decide), byteAt_set_same _ _ (by decide)]

theorem byteAt_clamp_last (a : Vector Byte 32) : byteAt (clamp a) 31 = (byteAt a 31 &&& 0x7F#8) ||| 0x40#8 := by
  rw [clamp, byteAt_set_same _ _ (by decide)]

theorem byteAt_clamp_middle (a : Vector Byte 32) {k : Nat} (h0 : k ≠ 0) (h31 : k ≠ 31) :
    byteAt (clamp a) k = byteAt a k := by
  rw [clamp, byteAt_set_other _ _ h31, byteAt_set_other _ _ h0]

theorem clampFirst_mod : ∀ b : Byte, (b &&& 0xF8#8).toNat % 8 = 0 := by decide +kernel

theorem clampLast_range : ∀ b : Byte,
    64 ≤ ((b &&& 0x7F#8) ||| 0x40#8).toNat ∧ ((b &&& 0x7F#8) ||| 0x40#8).toNat < 128 := by
  decide +kernel

theorem clampLast_idem : ∀ b : Byte,
    ((b &&& 0x7F#8 ||| 0x40#8) &&& 0x7F#8) ||| 0x40#8 = (b &&& 0x7F#8) ||| 0x40#8 := by
  decide +kernel

/-- The top byte of a clamped scalar has bit 7 clear and bit 6 set. -/
theorem byteAt_clamp_last_range (a : Vector Byte 32) :
    64 ≤ (byteAt (clamp a) 31).toNat ∧ (byteAt (clamp a) 31).toNat < 128 := by
  rw [byteAt_clamp_last]
  exact clampLast_range _

theorem clamp_clamp (a : Vector Byte 32) : clamp (clamp a) = clamp a := by
  refine bytes_ext fun k _ => ?_
  by_cases h0 : k = 0
  · rw [h0, byteAt_clamp_zero, byteAt_clamp_zero, BitVec.and_assoc, BitVec.and_self]
  by_cases h31 : k = 31
  · rw [h31, byteAt_clamp_last, byteAt_clamp_last, clampLast_idem]
  · rw [byteAt_clamp_middle _ h0 h31]

theorem leint_clamp_mod (a : Vector Byte 32) : leint (clamp a).toList % 8 = 0 := by
  have hfirst := leint_toList_div_mod (clamp a) (k := 0) (by decide)
  have hmod := clampFirst_mod (byteAt a 0)
  rw [← byteAt_clamp_zero, ← hfirst] at hmod
  omega

theorem leint_clamp_range (a : Vector Byte 32) :
    2 ^ 254 ≤ leint (clamp a).toList ∧ leint (clamp a).toList < 2 ^ 255 := by
  have hlast := leint_toList_div_mod (clamp a) (k := 31) (by decide)
  have hlt := leint_lt (clamp a).toList
  have hrange := byteAt_clamp_last_range a
  rw [Vector.length_toList] at hlt
  omega

/-- Settles O48: the low byte decides the residue, the top byte the range, and no bit is moved twice. -/
theorem clampGivesAMultipleOfEight : Obligations.ClampGivesAMultipleOfEight := fun s =>
  ⟨clamp s.scalar, rfl, byteAt_clamp_zero _, byteAt_clamp_last _,
    fun _ h1 h30 => byteAt_clamp_middle _ (by omega) (by omega),
    leint_clamp_mod _, (leint_clamp_range _).1, (leint_clamp_range _).2, clamp_clamp _⟩

end Sys2Proof.Machine
end

section
/-! SUPPORT. The signed digits: the carry chain of R107 keeps the value of its list of digits to the base 16, and a
carry is 0 or 1. -/

namespace Sys2Proof.Machine

/-! ### Lists of digits to the base 16 -/

/-- The integer of a list of digits to the base 16, lowest first. -/
def hexValue : List Int → Int
  | [] => 0
  | e :: es => e + 16 * hexValue es

theorem hexValue_eq_sum (es : List Int) :
    hexValue es = ((List.range es.length).map fun i => es.getD i 0 * 16 ^ i).sum := by
  induction es with
  | nil => rfl
  | cons e es ih =>
    rw [hexValue, ih, List.length_cons, List.range_succ_eq_map, List.map_cons, List.sum_cons, List.map_map,
      ← List.sum_map_mul_left]
    congr 1
    · simp
    · refine congrArg List.sum (List.map_congr_left fun i _ => ?_)
      rw [Function.comp_apply, List.getD_cons_succ, pow_succ]
      ring

/-! ### The nibbles of the bytes -/

theorem length_nibbles (bs : List Byte) : (nibbles bs).length = 2 * bs.length := by
  induction bs with
  | nil => rfl
  | cons b bs ih =>
    simp only [nibbles, List.length_cons, ih]
    omega

theorem hexValue_nibbles (bs : List Byte) : hexValue (nibbles bs) = leint bs := by
  induction bs with
  | nil => rfl
  | cons b bs ih =>
    simp only [nibbles, hexValue, ih, leint]
    omega

theorem nibble_range {bs : List Byte} {e : Int} (he : e ∈ nibbles bs) : 0 ≤ e ∧ e ≤ 15 := by
  induction bs with
  | nil => cases he
  | cons b bs ih =>
    have hb : b.toNat < 256 := b.isLt
    rw [nibbles, List.mem_cons, List.mem_cons] at he
    rcases he with rfl | rfl | he
    · omega
    · omega
    · exact ih he

/-- The odd nibbles are the high ones. -/
theorem getD_nibbles_odd (bs : List Byte) {k : Nat} (hk : k < bs.length) :
    (nibbles bs).getD (2 * k + 1) 0 = (bs[k].toNat / 16 : Nat) := by
  induction bs generalizing k with
  | nil => cases hk
  | cons b bs ih =>
    cases k with
    | zero => rfl
    | succ k => exact ih (Nat.lt_of_succ_lt_succ hk)

/-! ### The carry chain (R107) -/

theorem balance_cons_cons (e e' : Int) (es : List Int) (c : Int) : balance (e :: e' :: es) c =
    (e + c - (e + c + 8) / 16 * 16) :: balance (e' :: es) ((e + c + 8) / 16) := rfl

theorem length_balance (es : List Int) (c : Int) : (balance es c).length = es.length := by
  fun_induction balance es c with
  | case1 => rfl
  | case2 => rfl
  | case3 _ _ _ _ _ _ ih => simp only [List.length_cons, ih]

/-- What leaves a digit enters the next one with the same weight. -/
theorem hexValue_balance (e : Int) (es : List Int) (c : Int) :
    hexValue (balance (e :: es) c) = hexValue (e :: es) + c := by
  induction es generalizing e c with
  | nil => simp only [balance, hexValue]; ring
  | cons e' es ih =>
    rw [balance_cons_cons, hexValue, ih, hexValue.eq_2 e]
    ring

/-- Every digit but the last is balanced, and the last one takes a carry of 0 or 1 (90_conflicts.md C8). -/
theorem balance_range {es : List Int} {c : Int} (hes : ∀ e ∈ es, 0 ≤ e ∧ e ≤ 15) (hc : 0 ≤ c ∧ c ≤ 1) (i : Nat) :
    (i + 1 < es.length → -8 ≤ (balance es c).getD i 0 ∧ (balance es c).getD i 0 ≤ 7)
      ∧ (i + 1 = es.length → es.getD i 0 ≤ (balance es c).getD i 0 ∧ (balance es c).getD i 0 ≤ es.getD i 0 + 1) := by
  induction es generalizing c i with
  | nil => simp
  | cons e es ih =>
    have he := hes e List.mem_cons_self
    cases es with
    | nil =>
      refine ⟨fun hi => by simp at hi, fun hi => ?_⟩
      obtain rfl : i = 0 := by simpa using hi
      simp only [balance, List.getD_cons_zero]
      omega
    | cons e' es =>
      rw [balance_cons_cons]
      cases i with
      | zero =>
        refine ⟨fun _ => ?_, fun hi => by simp at hi⟩
        rw [List.getD_cons_zero]
        omega
      | succ i =>
        have hrest := ih (c := (e + c + 8) / 16) (fun e he => hes e (List.mem_cons_of_mem _ he)) (by omega) i
        simpa only [List.getD_cons_succ, List.length_cons, Nat.add_lt_add_iff_right, Nat.add_right_cancel_iff]
          using hrest

/-! ### The digits of a scalar -/

theorem length_digits (a : Vector Byte 32) : (digits a).length = 64 := by
  rw [digits, length_balance, length_nibbles, Vector.length_toList]

theorem hexValue_digits (a : Vector Byte 32) : hexValue (digits a) = leint a.toList := by
  obtain ⟨e, es, hcons⟩ : ∃ e es, nibbles a.toList = e :: es :=
    List.exists_cons_of_length_pos (by rw [length_nibbles, Vector.length_toList]; decide)
  rw [← hexValue_nibbles, digits, hcons, hexValue_balance, add_zero]

theorem digit_range (a : Vector Byte 32) {i : Nat} (hi : i < 63) :
    -8 ≤ (digits a).getD i 0 ∧ (digits a).getD i 0 ≤ 7 :=
  (balance_range (fun _ => nibble_range) (by decide) i).1 (by rw [length_nibbles, Vector.length_toList]; omega)

/-- The last digit is the top nibble, or one more. -/
theorem last_digit_range (a : Vector Byte 32) :
    (byteAt a 31).toNat / 16 ≤ (digits a).getD 63 0 ∧ (digits a).getD 63 0 ≤ (byteAt a 31).toNat / 16 + 1 := by
  have hlast := (balance_range (es := nibbles a.toList) (c := 0) (fun _ => nibble_range) (by decide) 63).2
    (by rw [length_nibbles, Vector.length_toList])
  rw [getD_nibbles_odd a.toList (k := 31) (by simp), Vector.getElem_toList, ← byteAt_eq_getElem a (by decide)] at hlast
  exact hlast

/-- Settles O50: the chain keeps the value and leaves balanced digits, and the top byte bounds the last one. -/
theorem digitsSumToTheScalar : Obligations.DigitsSumToTheScalar := by
  intro a
  have hsum := hexValue_eq_sum (digits a)
  rw [hexValue_digits, length_digits] at hsum
  have hlast := last_digit_range a
  have hclamped := last_digit_range (clamp a)
  have htop := byteAt_clamp_last_range a
  have hbyte := (byteAt a 31).isLt
  exact ⟨length_digits a, hsum.symm, fun _ => digit_range a, by omega, by omega, by omega, by omega⟩

end Sys2Proof.Machine
end

section
/-! SUPPORT. The table select: the eight conditional moves keep the one entry of the digit's magnitude, and the last one
its negative (R105); what is selected is in B1. -/

namespace Sys2Proof.Machine

/-! ### The selected entry (R105) -/

@[simp] theorem precompCmov_false (a b : Precomp) : precompCmov a b false = a := by
  simp only [precompCmov, feCmov_false]

@[simp] theorem precompCmov_true (a b : Precomp) : precompCmov a b true = b := by
  simp only [precompCmov, feCmov_true]

/-- Moves of the entries `js`, each on its own number, keep the entry of n if it is among them. -/
theorem foldl_precompCmov_rom (blk n : Nat) (js : List Nat) (t : Precomp) :
    js.foldl (fun t j => precompCmov t (rom blk (j - 1)) (n == j)) t = if n ∈ js then rom blk (n - 1) else t := by
  induction js generalizing t with
  | nil => rfl
  | cons j js ih =>
    rw [List.foldl_cons, ih]
    by_cases hj : n = j
    · subst hj
      rw [beq_self_eq_true, precompCmov_true, ite_self, if_pos List.mem_cons_self]
    · simp only [beq_false_of_ne hj, precompCmov_false, List.mem_cons, hj, false_or]

/-- The entry for a digit of magnitude n: the identity for 0 and beyond the table. -/
def tableEntry (blk n : Nat) : Precomp := if 1 ≤ n ∧ n ≤ 8 then rom blk (n - 1) else precompIdentity

theorem select_eq (blk : Nat) (dig : Int) : select blk dig =
    precompCmov (tableEntry blk dig.natAbs) (precompNeg (tableEntry blk dig.natAbs)) (decide (dig < 0)) := by
  have hmem : dig.natAbs ∈ [1, 2, 3, 4, 5, 6, 7, 8] ↔ 1 ≤ dig.natAbs ∧ dig.natAbs ≤ 8 := by
    simp only [List.mem_cons, List.not_mem_nil, or_false]
    omega
  simp only [select, foldl_precompCmov_rom, hmem]
  rfl

theorem select_of_nonneg (blk : Nat) {dig : Int} (h : 0 ≤ dig) : select blk dig = tableEntry blk dig.natAbs := by
  rw [select_eq, decide_eq_false (by omega), precompCmov_false]

theorem select_of_neg (blk : Nat) {dig : Int} (h : dig < 0) :
    select blk dig = precompNeg (tableEntry blk dig.natAbs) := by
  rw [select_eq, decide_eq_true h, precompCmov_true]

theorem tableEntry_of_mem (blk : Nat) {n : Nat} (h : 1 ≤ n ∧ n ≤ 8) : tableEntry blk n = rom blk (n - 1) := if_pos h

theorem tableEntry_of_not_mem (blk : Nat) {n : Nat} (h : ¬ (1 ≤ n ∧ n ≤ 8)) : tableEntry blk n = precompIdentity :=
  if_neg h

theorem precompNeg_identity : precompNeg precompIdentity = precompIdentity := by decide

/-- Settles O49: by the sign of the digit, and by whether its magnitude is in the table. -/
theorem geSelectReadsTheTableByTheDigit : Obligations.GeSelectReadsTheTableByTheDigit := by
  refine ⟨fun s rd _ _ hd => finish_writeGroup3 s rd (groupFits_of_le hd) _ _ _, fun blk dig => ?_⟩
  refine ⟨fun h1 h8 => ?_, fun h8 h1 => ?_, fun hout => ?_⟩
  · rw [select_of_nonneg blk (by omega), tableEntry_of_mem blk (by omega), show dig.natAbs = dig.toNat by omega]
  · rw [select_of_neg blk (by omega), tableEntry_of_mem blk (by omega), show dig.natAbs = (-dig).toNat by omega]
    rfl
  · have hentry := tableEntry_of_not_mem blk (n := dig.natAbs) (by omega)
    rcases lt_or_ge dig 0 with hneg | hnonneg
    · rw [select_of_neg blk hneg, hentry, precompNeg_identity]
      rfl
    · rw [select_of_nonneg blk hnonneg, hentry]
      rfl

/-! ### What is selected is in B1 (R66) -/

/-- The three coordinates are in B1. -/
structure Precomp.InB1 (q : Precomp) : Prop where
  ypx : q.ypx.Bounded 1
  ymx : q.ymx.Bounded 1
  xy2d : q.xy2d.Bounded 1

theorem FieldElement.InRange.bounded_one {f : FieldElement} (hf : f.InRange) : f.Bounded 1 := fun i hi => by
  obtain ⟨hnonneg, hlt⟩ := hf i hi
  rw [abs_of_nonneg hnonneg, Nat.cast_one, one_mul]
  exact hlt.le

/-- The canonical form of any integer has its limbs in range (R11). -/
theorem canon_inRange (v : Nat) : (canon v).InRange := fun i hi => by
  have hlt : v % fieldPrime / 2 ^ limbPos i % 2 ^ limbWidth i < 2 ^ limbWidth i := Nat.mod_lt _ (by positivity)
  rw [FieldElement.int, limb_canon v hi, canonLimb]
  generalize v % fieldPrime / 2 ^ limbPos i % 2 ^ limbWidth i = x at hlt
  rw [BitVec.toInt_ofNat', Int.bmod_def]
  rcases limbWidth_cases i with hw | hw <;> rw [hw] at hlt ⊢ <;> omega

theorem canon_bounded (v : Nat) : (canon v).Bounded 1 := (canon_inRange v).bounded_one

theorem feNeg_bounded {f : FieldElement} (hf : f.Bounded 1) : (feNeg f).Bounded 1 := fun i hi => by
  have hle := hf i hi
  rw [int_feNeg f hi, s32_of_abs_lt, abs_neg]
  · exact hle
  · rw [abs_neg]
    rcases limbWidth_cases i with hw | hw <;> rw [hw] at hle <;> omega

theorem precompOf_inB1 (a : Nat × Nat) : (precompOf a).InB1 := ⟨canon_bounded _, canon_bounded _, canon_bounded _⟩

theorem precompNeg_inB1 {q : Precomp} (hq : q.InB1) : (precompNeg q).InB1 := ⟨hq.ymx, hq.ypx, feNeg_bounded hq.xy2d⟩

/-- The identity is the precomputed form of the neutral point (R92). -/
theorem precompIdentity_eq : precompIdentity = precompOf (0, 1) := by decide +kernel

theorem tableEntry_inB1 (blk n : Nat) : (tableEntry blk n).InB1 := by
  by_cases h : 1 ≤ n ∧ n ≤ 8
  · rw [tableEntry_of_mem blk h]
    exact precompOf_inB1 _
  · rw [tableEntry_of_not_mem blk h, precompIdentity_eq]
    exact precompOf_inB1 _

theorem select_inB1 (blk : Nat) (dig : Int) : (select blk dig).InB1 := by
  rcases lt_or_ge dig 0 with hneg | hnonneg
  · rw [select_of_neg blk hneg]
    exact precompNeg_inB1 (tableEntry_inB1 blk _)
  · rw [select_of_nonneg blk hnonneg]
    exact tableEntry_inB1 blk _

end Sys2Proof.Machine
end

section
/-! SUPPORT. The fixed-base multiplier: its two passes as folds, and the bounds that a point keeps through both of them
(spec/42_scalarmult.md §4). -/

namespace Sys2Proof.Machine

/-! ### GE_SMULB (R108) -/

theorem foldl_oddIndices {α : Type} (f : α → Nat → α) (a : α) :
    oddIndices.foldl f a = (List.range 32).foldl (fun h k => f h (2 * k + 1)) a := List.foldl_map

theorem foldl_evenIndices {α : Type} (f : α → Nat → α) (a : α) :
    evenIndices.foldl f a = (List.range 32).foldl (fun h k => f h (2 * k)) a := List.foldl_map

/-- Settles O51: the passes over the odd and the even indices are folds over their halves. -/
theorem geSmulbRunsTheWindowedMultiplier : Obligations.GeSmulbRunsTheWindowedMultiplier := by
  intro s rd hd add odd twice mid h
  have hmult : scalarMultBase s.scalar = h := by
    simp only [scalarMultBase, foldl_oddIndices, foldl_evenIndices]
    rfl
  rw [← hmult]
  exact finish_writeGroup4 s rd (groupFits_of_le hd) _ _ _ _

/-! ### Bounds of the group functions (R66, R67) -/

/-- The four coordinates are in B3. -/
structure Completed.InB3 (p : Completed) : Prop where
  x : p.x.Bounded 3
  y : p.y.Bounded 3
  z : p.z.Bounded 3
  t : p.t.Bounded 3

/-- The three coordinates are in class T. -/
structure Projective.Tight (p : Projective) : Prop where
  x : p.x.Tight
  y : p.y.Tight
  z : p.z.Tight

/-- The four coordinates are in class T, and T is X·Y/Z. -/
structure Extended.TightValid (p : Extended) : Prop where
  x : p.x.Tight
  y : p.y.Tight
  z : p.z.Tight
  t : p.t.Tight
  valid : CongrP (p.x.val * p.y.val) (p.z.val * p.t.val)

theorem feMul_tight {f g : FieldElement} (hf : f.Bounded 3) (hg : g.Bounded 3) : (feMul f g).Tight :=
  (feMul_spec hf hg).1

theorem completedToProjective_tight {p : Completed} (hp : p.InB3) : (completedToProjective p).Tight :=
  ⟨feMul_tight hp.x hp.t, feMul_tight hp.y hp.z, feMul_tight hp.z hp.t⟩

theorem completedToExtended_tightValid {p : Completed} (hp : p.InB3) : (completedToExtended p).TightValid :=
  ⟨feMul_tight hp.x hp.t, feMul_tight hp.y hp.z, feMul_tight hp.z hp.t, feMul_tight hp.x hp.y,
    completedToExtended_valid hp.x hp.y hp.z hp.t⟩

theorem extendedToProjective_tight {p : Extended} (hp : p.TightValid) : (extendedToProjective p).Tight :=
  ⟨hp.x, hp.y, hp.z⟩

theorem pointDouble_inB3 {p : Projective} (hp : p.Tight) : (pointDouble p).InB3 := by
  have hx := hp.x.bounded_one.denotes
  have hy := hp.y.bounded_one.denotes
  have hz := hp.z.bounded_one.denotes
  have hy3 := hy.sq.add hx.sq
  have hz3 := hy.sq.sub hx.sq
  exact ⟨((hx.add hy).sq.sub hy3).bounded, hy3.bounded.mono (by decide), hz3.bounded.mono (by decide),
    (hz.sq2.sub hz3).bounded⟩

theorem pointMadd_inB3 {p : Extended} {q : Precomp} (hp : p.TightValid) (hq : q.InB1) : (pointMadd p q).InB3 := by
  have hx := hp.x.bounded_one.denotes
  have hy := hp.y.bounded_one.denotes
  have hz := hp.z.bounded_one.denotes
  have ha := (hy.add hx).mul hq.ypx.denotes
  have hb := (hy.sub hx).mul hq.ymx.denotes
  have hc := hq.xy2d.denotes.mul hp.t.bounded_one.denotes
  have hd := hz.add hz
  exact ⟨(ha.sub hb).bounded.mono (by decide), (ha.add hb).bounded.mono (by decide), (hd.add hc).bounded,
    (hd.sub hc).bounded⟩

/-! ### The invariant of both passes -/

theorem extendedIdentity_tightValid : extendedIdentity.TightValid := by
  have hzero : feZero.Tight := (tight_iff _).mpr (by decide)
  have hone : feOne.Tight := (tight_iff _).mpr (by decide)
  exact ⟨hzero, hone, hone, hzero, rfl⟩

theorem addDigit_tightValid (e : List Int) {h : Extended} (hh : h.TightValid) (i : Nat) :
    (addDigit e h i).TightValid :=
  completedToExtended_tightValid (pointMadd_inB3 hh (select_inB1 _ _))

theorem foldl_addDigit_tightValid (e : List Int) (is : List Nat) {h : Extended} (hh : h.TightValid) :
    (is.foldl (addDigit e) h).TightValid :=
  List.foldlRecOn (motive := Extended.TightValid) is (addDigit e) hh fun _ hb i _ => addDigit_tightValid e hb i

theorem doubled_tight {p : Projective} (hp : p.Tight) : (completedToProjective (pointDouble p)).Tight :=
  completedToProjective_tight (pointDouble_inB3 hp)

theorem timesSixteen_tightValid {h : Extended} (hh : h.TightValid) : (timesSixteen h).TightValid :=
  completedToExtended_tightValid
    (pointDouble_inB3 (doubled_tight (doubled_tight (doubled_tight (extendedToProjective_tight hh)))))

theorem scalarMultBase_tightValid (a : Vector Byte 32) : (scalarMultBase a).TightValid :=
  foldl_addDigit_tightValid _ _ (timesSixteen_tightValid (foldl_addDigit_tightValid _ _ extendedIdentity_tightValid))

/-- Settles O52: the identity is tight and valid, and every addition and doubling ends in a conversion that is. -/
theorem multiplierResultIsTightAndExtended : Obligations.MultiplierResultIsTightAndExtended := fun a =>
  have h := scalarMultBase_tightValid a
  ⟨h.x, h.y, h.z, h.t, h.valid⟩

end Sys2Proof.Machine
end

section
/-! SUPPORT. The table is R103's construction: each block's base and each next entry follow from the table's own earlier
entries, so that the recursion is evaluated one step at a time. -/

namespace Sys2Proof.Machine

/-! ### One step of the construction -/

theorem romPoint_zero : romPoint 0 0 = basePoint := by decide +kernel

/-- The next block begins at 256 times the base of this one. -/
theorem romPoint_next_block : ∀ i < 31, romPoint (i + 1) 0 = doubleTimes (romPoint i 0) 8 := by decide +kernel

/-- The next entry is one base more. -/
theorem romPoint_next_entry : ∀ i < 32, ∀ j < 7, romPoint i (j + 1) = edwardsAdd (romPoint i j) (romPoint i 0) := by
  decide +kernel

theorem romPoint_fst_le : ∀ i < 32, ∀ j < 8, (romPoint i j).1 ≤ fieldPrime := by decide +kernel

/-! ### The construction (R103) -/

theorem blockBase_eq_romPoint {i : Nat} (hi : i < 32) : blockBase i = romPoint i 0 := by
  induction i with
  | zero => exact romPoint_zero.symm
  | succ i ih => rw [blockBase, ih (by omega), romPoint_next_block i (by omega)]

theorem romFormula_eq_romPoint {i j : Nat} (hi : i < 32) (hj : j < 8) : romFormula i j = romPoint i j := by
  rw [romFormula, blockBase_eq_romPoint hi]
  induction j with
  | zero => rfl
  | succ j ih => rw [multipleOf, ih (by omega), romPoint_next_entry i hi j (by omega)]

/-! ### The canonical precomputed form -/

theorem canon_congr {u v : Nat} (h : u % fieldPrime = v % fieldPrime) : canon u = canon v := by
  simp only [canon, canonLimb, h]

theorem precompOf_eq {a : Nat × Nat} (ha : a.1 ≤ fieldPrime) : precompOf a =
    ⟨canon (a.2 + a.1), canon (a.2 + fieldPrime - a.1), canon (2 * curveD * a.1 * a.2)⟩ := by
  rw [precompOf, Nat.add_sub_assoc ha, canon_congr (Nat.mod_mul_mod (2 * curveD * a.1) a.2 fieldPrime)]

/-- Settles O47: the table's entries follow from one another as the construction's do. -/
theorem romHoldsTheMultiplesOfTheBasePoint : Obligations.RomHoldsTheMultiplesOfTheBasePoint := by
  intro i j hi hj
  rw [romFormula_eq_romPoint hi hj]
  exact ⟨rfl, precompOf_eq (romPoint_fst_le i hi j hj)⟩

end Sys2Proof.Machine
end

section
/-! SUPPORT. The hash engine's words: what a word of a vector is, and a little-endian word as the integer of its eight
bytes; and with them the words of the parameter block. -/

namespace Sys2Proof.Machine

/-! ### Words of a vector -/

theorem wordAt_eq_getElem {n : Nat} (v : Vector Word64 n) {i : Nat} (hi : i < n) : wordAt v i = v[i] := by
  simp [wordAt, Vector.getD, hi]

theorem wordAt_ofFn {n : Nat} (f : Fin n → Word64) {i : Nat} (hi : i < n) : wordAt (Vector.ofFn f) i = f ⟨i, hi⟩ := by
  rw [wordAt_eq_getElem _ hi, Vector.getElem_ofFn]

/-! ### Little-endian words (R45, R114) -/

/-- A slice of a byte register, byte by byte. -/
theorem slice_eq_map_byteAt {n : Nat} (x : Vector Byte n) {k m : Nat} (h : k + m ≤ n) :
    (x.toList.drop k).take m = (List.range m).map fun j => byteAt x (k + j) := by
  apply List.ext_getElem
  · simp
    omega
  · intro j _ hj
    rw [List.length_map, List.length_range] at hj
    simp [byteAt_eq_getElem x (show k + j < n by omega)]

/-- The word at bytes 8i .. 8i+7 is `leint` of that slice. -/
theorem leWordAt_eq_leint {n : Nat} (x : Vector Byte n) {i : Nat} (h : 8 * i + 8 ≤ n) :
    leWordAt x i = BitVec.ofNat 64 (leint ((x.toList.drop (8 * i)).take 8)) := by
  rw [slice_eq_map_byteAt x h]
  rfl

/-- Eight equal bytes make equal words. -/
theorem leWordAt_congr {n m : Nat} {x : Vector Byte n} {y : Vector Byte m} {i j : Nat}
    (h : ∀ k < 8, byteAt x (8 * i + k) = byteAt y (8 * j + k)) : leWordAt x i = leWordAt y j := by
  have h0 : byteAt x (8 * i) = byteAt y (8 * j) := h 0 (by decide)
  rw [leWordAt, leWordAt, h0, h 1 (by decide), h 2 (by decide), h 3 (by decide), h 4 (by decide), h 5 (by decide),
    h 6 (by decide), h 7 (by decide)]

theorem leWordAt_zeroBytes (n i : Nat) : leWordAt (zeroBytes n) i = 0#64 := by
  simp [leWordAt, leint]

/-! ### The parameter block (R116) -/

/-- What SALT or PERS puts into the parameter block: its bytes at length 16, else none. -/
def optionalField (len : BitVec 5) (x : Vector Byte 16) : Vector Byte 16 := if len = 16#5 then x else zeroBytes 16

theorem leWordAt_optionalField (len : BitVec 5) (x : Vector Byte 16) {i : Nat} (hi : i < 2) :
    leWordAt (optionalField len x) i
      = if len.toNat = 16 then BitVec.ofNat 64 (leint ((x.toList.drop (8 * i)).take 8)) else 0#64 := by
  have hlen : len.toNat = 16 ↔ len = 16#5 := BitVec.toNat_inj (y := 16#5)
  rw [optionalField, apply_ite (fun y => leWordAt y i), leWordAt_zeroBytes, leWordAt_eq_leint x (by omega)]
  simp only [hlen]

section ParamBlock

variable (cfg : B2Config) (salt pers : Vector Byte 16)

theorem byteAt_paramBlock_of_ge_four {k : Nat} (h4 : 4 ≤ k) (h64 : k < 64) : byteAt (paramBlock cfg salt pers) k =
    if 32 ≤ k ∧ k < 48 ∧ cfg.saltlen = 16#5 then byteAt salt (k - 32)
    else if 48 ≤ k ∧ cfg.perslen = 16#5 then byteAt pers (k - 48) else 0#8 := by
  rw [paramBlock, byteAt_ofFn _ h64]
  simp (disch := omega) only [if_neg]

theorem byteAt_paramBlock_unused {k : Nat} (h4 : 4 ≤ k) (h32 : k < 32) : byteAt (paramBlock cfg salt pers) k = 0#8 := by
  rw [byteAt_paramBlock_of_ge_four _ _ _ h4 (by omega), if_neg (by omega), if_neg (by omega)]

theorem byteAt_paramBlock_salt {k : Nat} (hk : k < 16) :
    byteAt (paramBlock cfg salt pers) (32 + k) = byteAt (optionalField cfg.saltlen salt) k := by
  have hlow : 32 + k < 48 := by omega
  rw [byteAt_paramBlock_of_ge_four _ _ _ (by omega) (by omega), optionalField, apply_ite (fun x => byteAt x k)]
  simp [hlow, Nat.not_le.mpr hlow]

theorem byteAt_paramBlock_pers {k : Nat} (hk : k < 16) :
    byteAt (paramBlock cfg salt pers) (48 + k) = byteAt (optionalField cfg.perslen pers) k := by
  rw [byteAt_paramBlock_of_ge_four _ _ _ (by omega) (by omega), optionalField, apply_ite (fun x => byteAt x k)]
  simp

/-- Word 0 holds the output length, the key length, and fan-out and depth 1. -/
theorem leWordAt_paramBlock_zero : leWordAt (paramBlock cfg salt pers) 0
    = BitVec.ofNat 64 (cfg.outlen.toNat + 256 * cfg.keylen.toNat + 2 ^ 16 + 2 ^ 24) := by
  have outlen : byteAt (paramBlock cfg salt pers) 0 = cfg.outlen.setWidth 8 := byteAt_ofFn _ (by decide)
  have keylen : byteAt (paramBlock cfg salt pers) 1 = cfg.keylen.setWidth 8 := byteAt_ofFn _ (by decide)
  have fanout : byteAt (paramBlock cfg salt pers) 2 = 1#8 := byteAt_ofFn _ (by decide)
  have depth : byteAt (paramBlock cfg salt pers) 3 = 1#8 := byteAt_ofFn _ (by decide)
  simp (disch := decide) only [leWordAt, leint, Nat.mul_zero, Nat.zero_add, outlen, keylen, fanout, depth,
    byteAt_paramBlock_unused, BitVec.toNat_ofNat, BitVec.toNat_setWidth]
  refine congrArg (BitVec.ofNat 64) ?_
  omega

/-- Words 1 to 3 hold nothing. -/
theorem leWordAt_paramBlock_unused {i : Nat} (h1 : 1 ≤ i) (h3 : i ≤ 3) :
    leWordAt (paramBlock cfg salt pers) i = 0#64 :=
  (leWordAt_congr fun k hk => (byteAt_paramBlock_unused cfg salt pers (by omega) (by omega)).trans
    (byteAt_zeroBytes 64 (8 * i + k)).symm).trans (leWordAt_zeroBytes 64 i)

/-- Words 4 and 5 hold the salt. -/
theorem leWordAt_paramBlock_salt {i : Nat} (hi : i < 2) :
    leWordAt (paramBlock cfg salt pers) (4 + i) = leWordAt (optionalField cfg.saltlen salt) i :=
  leWordAt_congr fun k hk => by
    rw [← byteAt_paramBlock_salt cfg salt pers (by omega), Nat.mul_add, Nat.add_assoc]

/-- Words 6 and 7 hold the personalization. -/
theorem leWordAt_paramBlock_pers {i : Nat} (hi : i < 2) :
    leWordAt (paramBlock cfg salt pers) (6 + i) = leWordAt (optionalField cfg.perslen pers) i :=
  leWordAt_congr fun k hk => by
    rw [← byteAt_paramBlock_pers cfg salt pers (by omega), Nat.mul_add, Nat.add_assoc]

end ParamBlock

/-! ### The initial hash words (R116) -/

theorem wordAt_initialHash (p : Vector Byte 64) {i : Nat} (hi : i < 8) :
    wordAt (initialHash p) i = wordAt blakeIV i ^^^ leWordAt p i := by
  rw [initialHash, wordAt_ofFn _ hi]

end Sys2Proof.Machine
end

section
/-! SUPPORT. What each hash command answers, by its guard, and from it the engine's state table (R117) and the context
that B2_INIT builds (R118). -/

namespace Sys2Proof.Machine

/-! ### The commands of the engine -/

section Commands

variable (s : State)

theorem exec_b2Init_of_legal (h : s.b2cfg.legal = true) : exec .b2Init s = .next { s with
    b2 := b2Start s.b2cfg s.key s.salt s.pers, err := .none, phase := .idle, done := true } :=
  finish_guard h

theorem exec_b2Init_of_illegal (h : s.b2cfg.legal = false) : exec .b2Init s = .next (s.complete .configError) := by
  show finish s _ = _
  rw [h]
  rfl

theorem exec_b2Update_of_long (h : 128 < s.b2len.toNat) : exec .b2Update s = .next (s.complete .badOperand) := by
  show finish s _ = _
  rw [if_pos h]
  rfl

theorem exec_b2Update_of_accepting (hlen : s.b2len.toNat ≤ 128) (h : s.b2.engine.accepting = true) :
    exec .b2Update s = .next { s with
      b2 := b2AbsorbAll s.b2 (s.data.toList.take s.b2len.toNat), err := .none, phase := .idle, done := true } := by
  show finish s _ = _
  rw [if_neg (Nat.not_lt.mpr hlen)]
  exact finish_guard h

theorem exec_b2Update_of_not_accepting (hlen : s.b2len.toNat ≤ 128) (h : s.b2.engine.accepting = false) :
    exec .b2Update s = .next (s.complete .stateError) := by
  show finish s _ = _
  rw [if_neg (Nat.not_lt.mpr hlen), h]
  rfl

theorem exec_b2Final_of_accepting (h : s.b2.engine.accepting = true) : exec .b2Final s = .next { s with
    b2 := b2Finish s.b2, digest := digestOf (b2Finish s.b2), err := .none, phase := .idle, done := true } :=
  finish_guard h

theorem exec_b2Final_of_not_accepting (h : s.b2.engine.accepting = false) :
    exec .b2Final s = .next (s.complete .stateError) := by
  show finish s _ = _
  rw [h]
  rfl

end Commands

theorem EngineState.accepting_of {e : EngineState} (h : e = .initialized ∨ e = .updating) : e.accepting = true := by
  obtain rfl | rfl := h <;> rfl

/-! ### The state table (R117) -/

theorem engineAfter_b2Update (e : EngineState) :
    engineAfter .b2Update e = if e.accepting then .ok .updating else .error .stateError := by
  cases e <;> rfl

theorem engineAfter_b2Final (e : EngineState) :
    engineAfter .b2Final e = if e.accepting then .ok .finalized else .error .stateError := by
  cases e <;> rfl

/-- Settles O53: each column of the table is what the command's completion leaves. -/
theorem engineFollowsTheStateTable : Obligations.EngineFollowsTheStateTable := by
  refine ⟨fun i s t hi legal hlen hexec => ?_, fun s => exec_b2Update_of_long s, fun s => exec_b2Init_of_illegal s⟩
  simp only [List.mem_cons, List.not_mem_nil, or_false] at hi
  obtain rfl | rfl | rfl := hi
  · rw [exec_b2Init_of_legal s legal] at hexec
    cases hexec
    exact ⟨rfl, rfl⟩
  · rw [engineAfter_b2Update]
    cases haccept : s.b2.engine.accepting
    · rw [exec_b2Update_of_not_accepting s hlen haccept] at hexec
      cases hexec
      exact ⟨rfl, rfl, rfl⟩
    · rw [exec_b2Update_of_accepting s hlen haccept] at hexec
      cases hexec
      exact ⟨rfl, rfl⟩
  · rw [engineAfter_b2Final]
    cases haccept : s.b2.engine.accepting
    · rw [exec_b2Final_of_not_accepting s haccept] at hexec
      cases hexec
      exact ⟨rfl, rfl, rfl⟩
    · rw [exec_b2Final_of_accepting s haccept] at hexec
      cases hexec
      exact ⟨rfl, rfl⟩

/-! ### The new context (R118) -/

theorem toNat_buflen_b2Start (cfg : B2Config) (key : Vector Byte 64) (salt pers : Vector Byte 16) :
    (b2Start cfg key salt pers).buflen.toNat = if cfg.keylen.toNat > 0 then 128 else 0 := by
  have hkey : cfg.keylen = 0#7 ↔ ¬ cfg.keylen.toNat > 0 := by
    rw [← BitVec.toNat_inj, BitVec.toNat_zero]
    omega
  simp only [b2Start, hkey]
  split <;> simp_all

/-- Settles O54: the new context word by word. -/
theorem b2InitBuildsTheContext : Obligations.B2InitBuildsTheContext := by
  intro s legal
  have word {i : Nat} (hi : i < 8) : wordAt (b2Start s.b2cfg s.key s.salt s.pers).h i
      = wordAt blakeIV i ^^^ leWordAt (paramBlock s.b2cfg s.salt s.pers) i := wordAt_initialHash _ hi
  have unused {i : Nat} (h1 : 1 ≤ i) (h3 : i ≤ 3) :
      wordAt (b2Start s.b2cfg s.key s.salt s.pers).h i = wordAt blakeIV i := by
    rw [word (by omega), leWordAt_paramBlock_unused _ _ _ h1 h3, BitVec.xor_zero]
  have salt {i : Nat} (hi : i < 2) := (word (show 4 + i < 8 by omega)).trans (congrArg _
    ((leWordAt_paramBlock_salt s.b2cfg s.salt s.pers hi).trans (leWordAt_optionalField _ _ hi)))
  have pers {i : Nat} (hi : i < 2) := (word (show 6 + i < 8 by omega)).trans (congrArg _
    ((leWordAt_paramBlock_pers s.b2cfg s.salt s.pers hi).trans (leWordAt_optionalField _ _ hi)))
  refine ⟨_, exec_b2Init_of_legal s legal, rfl, rfl, rfl, rfl, rfl, toNat_buflen_b2Start _ _ _ _, ?_, ?_,
    unused (by decide) (by decide), unused (by decide) (by decide), unused (by decide) (by decide),
    ⟨salt (i := 0) (by decide), salt (i := 1) (by decide)⟩, pers (i := 0) (by decide), pers (i := 1) (by decide)⟩
  · exact fun k hk => byteAt_ofFn _ hk
  · rw [word (by decide), leWordAt_paramBlock_zero]
    rfl

end Sys2Proof.Machine
end

section
/-! SUPPORT. Absorbing bytes in closed form: bytes that fit are put behind BUFLEN, and a full buffer spills only before a
further byte; and from it the one compression of B2_UPDATE (R119). -/

namespace Sys2Proof.Machine

/-! ### Bytes put into the buffer -/

/-- The buffer with the bytes `xs` from index `k` on. -/
def putBytes (buf : Vector Byte 128) (k : Nat) (xs : List Byte) : Vector Byte 128 :=
  Vector.ofFn fun i => if k ≤ i.val ∧ i.val < k + xs.length then xs.getD (i.val - k) 0#8 else byteAt buf i.val

theorem byteAt_putBytes (buf : Vector Byte 128) (k : Nat) (xs : List Byte) {i : Nat} (hi : i < 128) :
    byteAt (putBytes buf k xs) i = if k ≤ i ∧ i < k + xs.length then xs.getD (i - k) 0#8 else byteAt buf i :=
  byteAt_ofFn _ hi

theorem putBytes_nil (buf : Vector Byte 128) (k : Nat) : putBytes buf k [] = buf := by
  refine bytes_ext fun i hi => ?_
  rw [byteAt_putBytes _ _ _ hi, List.length_nil, if_neg (by omega)]

/-- One byte first, then the rest behind it. -/
theorem putBytes_setIfInBounds (buf : Vector Byte 128) (k : Nat) (x : Byte) (xs : List Byte) :
    putBytes (buf.setIfInBounds k x) (k + 1) xs = putBytes buf k (x :: xs) := by
  refine bytes_ext fun i hi => ?_
  rw [byteAt_putBytes _ _ _ hi, byteAt_putBytes _ _ _ hi, List.length_cons]
  obtain hlt | rfl | hgt := Nat.lt_trichotomy i k
  · rw [if_neg (by omega), if_neg (by omega), byteAt_set_other _ _ (by omega)]
  · rw [if_neg (by omega), if_pos (by omega), byteAt_set_same _ _ hi, Nat.sub_self, List.getD_cons_zero]
  · have hstep : i - k = i - (k + 1) + 1 := by omega
    have hrange : k + 1 ≤ i ∧ i < k + 1 + xs.length ↔ k ≤ i ∧ i < k + (xs.length + 1) := by omega
    rw [byteAt_set_other _ _ (by omega), hstep, List.getD_cons_succ]
    simp only [hrange]

/-! ### Absorbing in closed form (R119) -/

/-- Bytes that fit go behind the pending ones. -/
def Blake2bState.append (b : Blake2bState) (xs : List Byte) : Blake2bState :=
  { b with buf := putBytes b.buf b.buflen.toNat xs, buflen := b.buflen + BitVec.ofNat 8 xs.length }

/-- The full buffer is compressed, and its bytes stay where they are. -/
def Blake2bState.spill (b : Blake2bState) : Blake2bState :=
  { b with t := b.t + 128#128, h := compress b.h b.buf (b.t + 128#128) 0#64 0#64, buflen := 0#8 }

@[simp] theorem Blake2bState.append_t (b : Blake2bState) (xs : List Byte) : (b.append xs).t = b.t := by rw [append]

@[simp] theorem Blake2bState.append_h (b : Blake2bState) (xs : List Byte) : (b.append xs).h = b.h := by rw [append]

@[simp] theorem Blake2bState.append_buf (b : Blake2bState) (xs : List Byte) :
    (b.append xs).buf = putBytes b.buf b.buflen.toNat xs := rfl

@[simp] theorem Blake2bState.spill_t (b : Blake2bState) : b.spill.t = b.t + 128#128 := rfl

@[simp] theorem Blake2bState.spill_h (b : Blake2bState) :
    b.spill.h = compress b.h b.buf (b.t + 128#128) 0#64 0#64 := rfl

@[simp] theorem Blake2bState.spill_buf (b : Blake2bState) : b.spill.buf = b.buf := rfl

@[simp] theorem Blake2bState.spill_toNat_buflen (b : Blake2bState) : b.spill.buflen.toNat = 0 := rfl

theorem Blake2bState.toNat_buflen_append (b : Blake2bState) {xs : List Byte} (h : b.buflen.toNat + xs.length ≤ 128) :
    (b.append xs).buflen.toNat = b.buflen.toNat + xs.length := by
  rw [append, BitVec.toNat_add, BitVec.toNat_ofNat]
  omega

theorem Blake2bState.append_nil (b : Blake2bState) : b.append [] = b := by
  rw [append, putBytes_nil, List.length_nil, BitVec.add_zero]

theorem b2Absorb_of_room {b : Blake2bState} (h : b.buflen.toNat < 128) (x : Byte) :
    b2Absorb b x = { b with buf := b.buf.setIfInBounds b.buflen.toNat x, buflen := b.buflen + 1#8 } := by
  have hroom : b.buflen ≠ 128#8 := fun hfull => absurd h (by rw [hfull]; decide)
  rw [b2Absorb, if_neg hroom]

theorem b2Absorb_of_full {b : Blake2bState} (h : b.buflen = 128#8) (x : Byte) : b2Absorb b x = b2Absorb b.spill x := by
  rw [b2Absorb, if_pos h]
  rfl

/-- Input that fits compresses nothing. -/
theorem foldl_b2Absorb_of_fits (xs : List Byte) {b : Blake2bState} (h : b.buflen.toNat + xs.length ≤ 128) :
    xs.foldl b2Absorb b = b.append xs := by
  induction xs generalizing b with
  | nil => exact b.append_nil.symm
  | cons x xs ih =>
    rw [List.length_cons] at h
    have hlen : (b.buflen + 1#8).toNat = b.buflen.toNat + 1 := by
      rw [BitVec.toNat_add, BitVec.toNat_ofNat]
      omega
    have hsum : b.buflen + 1#8 + BitVec.ofNat 8 xs.length = b.buflen + BitVec.ofNat 8 (xs.length + 1) := by
      rw [BitVec.add_assoc, ← BitVec.ofNat_add, Nat.add_comm 1]
    rw [List.foldl_cons, b2Absorb_of_room (by omega), ih (by rw [hlen]; omega)]
    simp only [Blake2bState.append, hlen, hsum, putBytes_setIfInBounds, List.length_cons]

/-- A full buffer spills before the next byte. -/
theorem foldl_b2Absorb_of_full {b : Blake2bState} (h : b.buflen = 128#8) {xs : List Byte} (hxs : xs ≠ []) :
    xs.foldl b2Absorb b = xs.foldl b2Absorb b.spill := by
  obtain ⟨x, xs, rfl⟩ := List.exists_cons_of_ne_nil hxs
  rw [List.foldl_cons, List.foldl_cons, b2Absorb_of_full h]

/-- Input of at most a block that does not fit compresses once: it fills the buffer, which spills before the rest. -/
theorem foldl_b2Absorb_of_overflow {xs : List Byte} {b : Blake2bState} (hb : b.buflen.toNat ≤ 128)
    (hxs : xs.length ≤ 128) (h : 128 < b.buflen.toNat + xs.length) : xs.foldl b2Absorb b =
      (b.append (xs.take (128 - b.buflen.toNat))).spill.append (xs.drop (128 - b.buflen.toNat)) := by
  have hfirst : (xs.take (128 - b.buflen.toNat)).length = 128 - b.buflen.toNat := by
    rw [List.length_take]
    omega
  have hrest : (xs.drop (128 - b.buflen.toNat)).length = b.buflen.toNat + xs.length - 128 := by
    rw [List.length_drop]
    omega
  have hfits : b.buflen.toNat + (xs.take (128 - b.buflen.toNat)).length ≤ 128 := by omega
  have hfull : (b.append (xs.take (128 - b.buflen.toNat))).buflen = 128#8 := by
    refine BitVec.eq_of_toNat_eq ((b.toNat_buflen_append hfits).trans ?_)
    rw [hfirst, BitVec.toNat_ofNat]
    omega
  calc xs.foldl b2Absorb b
      = (xs.drop (128 - b.buflen.toNat)).foldl b2Absorb ((xs.take (128 - b.buflen.toNat)).foldl b2Absorb b) := by
        rw [← List.foldl_append, List.take_append_drop]
    _ = (xs.drop (128 - b.buflen.toNat)).foldl b2Absorb (b.append (xs.take (128 - b.buflen.toNat))) := by
        rw [foldl_b2Absorb_of_fits _ hfits]
    _ = (xs.drop (128 - b.buflen.toNat)).foldl b2Absorb (b.append (xs.take (128 - b.buflen.toNat))).spill :=
        foldl_b2Absorb_of_full hfull (List.ne_nil_of_length_pos (by omega))
    _ = _ := foldl_b2Absorb_of_fits _ (by
        show (0#8).toNat + _ ≤ 128
        rw [hrest, BitVec.toNat_ofNat]
        omega)

/-! ### B2_UPDATE (R119) -/

/-- A buffer filled to its end. -/
theorem byteAt_putBytes_fill (buf : Vector Byte 128) {p : Nat} {xs : List Byte} (h : 128 - p ≤ xs.length) {k : Nat}
    (hk : k < 128) : byteAt (putBytes buf p (xs.take (128 - p))) k
      = if k < p then byteAt buf k else xs.getD (k - p) 0#8 := by
  rw [byteAt_putBytes _ _ _ hk, List.length_take, Nat.min_eq_left h]
  by_cases hp : k < p
  · rw [if_neg (by omega), if_pos hp]
  · rw [if_pos (by omega), if_neg hp, List.getD_eq_getElem?_getD, List.getElem?_take_of_lt (by omega),
      ← List.getD_eq_getElem?_getD]

/-- The rest of the bytes in an emptied buffer. -/
theorem byteAt_putBytes_rest (buf : Vector Byte 128) (m : Nat) (xs : List Byte) {k : Nat} (hk : k < 128) :
    byteAt (putBytes buf 0 (xs.drop m)) k = if k < (xs.drop m).length then xs.getD (m + k) 0#8 else byteAt buf k := by
  simp [byteAt_putBytes _ _ _ hk]

/-- The bytes that B2_UPDATE absorbs are DATA[0 .. n-1]. -/
theorem getD_take_toList {n m : Nat} (x : Vector Byte n) {j : Nat} (hj : j < m) (hm : m ≤ n) :
    (x.toList.take m).getD j 0#8 = byteAt x j := by
  have hjn : j < n := by omega
  simp [byteAt_eq_getElem x hjn, List.getD_eq_getElem?_getD, hj, hjn]

/-- Settles O55: the closed form of the absorbed bytes, with and without the one compression. -/
theorem b2UpdateCompressesAtMostOnce : Obligations.B2UpdateCompressesAtMostOnce := by
  intro s hlen accepting hbuf
  refine ⟨_, exec_b2Update_of_accepting s hlen (EngineState.accepting_of accepting), rfl, ?_⟩
  have hn : (s.data.toList.take s.b2len.toNat).length = s.b2len.toNat := by simp [hlen]
  have hdata : ∀ j < s.b2len.toNat, (s.data.toList.take s.b2len.toNat).getD j 0#8 = byteAt s.data j :=
    fun j hj => getD_take_toList s.data hj hlen
  generalize s.data.toList.take s.b2len.toNat = xs at hn hdata ⊢
  obtain ⟨f0, f1, nn⟩ := foldl_b2Absorb_keeps xs s.b2
  refine ⟨f0, f1, nn, fun hzero => ?_, fun hfits => ?_, fun hover => ?_⟩
  · rw [List.eq_nil_of_length_eq_zero (hn.trans hzero)]
    rfl
  · simp only [b2AbsorbAll, foldl_b2Absorb_of_fits xs (show s.b2.buflen.toNat + xs.length ≤ 128 by omega)]
    refine ⟨Blake2bState.append_t _ _, Blake2bState.append_h _ _, ?_, fun k hk => ?_⟩
    · exact hn ▸ s.b2.toNat_buflen_append (xs := xs) (by omega)
    · rw [Blake2bState.append_buf, byteAt_putBytes _ _ _ hk, hn]
      split
      · exact hdata _ (by omega)
      · rfl
  · have hrest : (xs.drop (128 - s.b2.buflen.toNat)).length = s.b2.buflen.toNat + s.b2len.toNat - 128 := by
      rw [List.length_drop]
      omega
    have hlast : ((s.b2.append (xs.take (128 - s.b2.buflen.toNat))).spill.append
        (xs.drop (128 - s.b2.buflen.toNat))).buflen.toNat = s.b2.buflen.toNat + s.b2len.toNat - 128 := by
      rw [Blake2bState.toNat_buflen_append _ (by rw [Blake2bState.spill_toNat_buflen]; omega),
        Blake2bState.spill_toNat_buflen, hrest, Nat.zero_add]
    simp only [b2AbsorbAll, foldl_b2Absorb_of_overflow hbuf (hn.trans_le hlen) (hn.symm ▸ hover)]
    refine ⟨by simp, hlast, (s.b2.append (xs.take (128 - s.b2.buflen.toNat))).buf, by simp, fun k hk => ?_,
      fun k hk => ?_⟩
    · rw [Blake2bState.append_buf, byteAt_putBytes_fill _ (by omega) hk]
      split
      · rfl
      · exact hdata _ (by omega)
    · rw [hlast, Blake2bState.append_buf, Blake2bState.spill_buf, Blake2bState.spill_toNat_buflen,
        byteAt_putBytes_rest _ _ _ hk, hrest]
      split
      · exact hdata _ (by omega)
      · rfl

end Sys2Proof.Machine
end

section
/-! SUPPORT. Streaming: B2_UPDATEs one after the other absorb their bytes as one B2_UPDATE's loop would, so the digest is
that of the whole message (R121). -/

namespace Sys2Proof.Machine

/-! ### Parts of a message -/

/-- Absorbing does not look at the engine state. -/
theorem foldl_b2Absorb_withEngine (b : Blake2bState) (e : EngineState) (xs : List Byte) :
    xs.foldl b2Absorb { b with engine := e } = { xs.foldl b2Absorb b with engine := e } :=
  List.foldl_hom (fun b : Blake2bState => { b with engine := e }) fun b x => by
    unfold b2Absorb
    split <;> rfl

/-- The host loads a part of the message: its bytes into DATA and its length into B2LEN. -/
def State.loadPart (s : State) (m : List Byte) : State :=
  { s with b2len := BitVec.ofNat 8 m.length, data := Vector.ofFn fun k => m.getD k.val 0#8 }

@[simp] theorem State.loadPart_b2 (s : State) (m : List Byte) : (s.loadPart m).b2 = s.b2 := by
  rw [State.loadPart]

/-- B2_UPDATE then absorbs exactly that part. -/
theorem exec_b2Update_loadPart {s : State} (accepting : s.b2.engine.accepting = true) {m : List Byte}
    (hm : m.length ≤ 128) : exec .b2Update (s.loadPart m) = .next { s.loadPart m with
      b2 := b2AbsorbAll s.b2 m, err := .none, phase := .idle, done := true } := by
  have hlen : (s.loadPart m).b2len.toNat = m.length := by
    rw [State.loadPart, BitVec.toNat_ofNat]
    omega
  have hdata : (s.loadPart m).data.toList.take m.length = m := by
    refine List.ext_getElem ?_ fun j hj hjm => ?_
    · simp [hm]
    · simp [State.loadPart, hjm]
  rw [exec_b2Update_of_accepting (s.loadPart m) (hlen ▸ hm) accepting, hlen, hdata, State.loadPart_b2]

/-- Fed part by part, the engine still accepts and has absorbed the whole message. -/
theorem foldl_feed {feed : Outcome → List Byte → Outcome}
    (hfeed : ∀ s m, feed (.next s) m = exec .b2Update (s.loadPart m)) {parts : List (List Byte)}
    (hparts : ∀ m ∈ parts, m.length ≤ 128) {s : State} (accepting : s.b2.engine.accepting = true) :
    ∃ t e, parts.foldl feed (.next s) = .next t ∧ e.accepting = true
      ∧ t.b2 = { parts.flatten.foldl b2Absorb s.b2 with engine := e } := by
  induction parts generalizing s with
  | nil => exact ⟨s, s.b2.engine, rfl, accepting, rfl⟩
  | cons m parts ih =>
    rw [List.foldl_cons, hfeed, exec_b2Update_loadPart accepting (hparts m List.mem_cons_self)]
    obtain ⟨t, e, hfold, he, habsorbed⟩ := ih (fun m' hm' => hparts m' (List.mem_cons_of_mem m hm'))
      (s := { s.loadPart m with b2 := b2AbsorbAll s.b2 m, err := .none, phase := .idle, done := true }) rfl
    refine ⟨t, e, hfold, he, habsorbed.trans ?_⟩
    rw [b2AbsorbAll, foldl_b2Absorb_withEngine, List.flatten_cons, List.foldl_append]

/-- Finishing does not look at the engine state. -/
theorem b2Finish_withEngine (b : Blake2bState) (e : EngineState) : b2Finish { b with engine := e } = b2Finish b := rfl

/-- The digest is a function of the context and of the message as a whole. -/
theorem digest_of_parts {feed : Outcome → List Byte → Outcome} {final : Outcome → Outcome}
    (hfeed : ∀ s m, feed (.next s) m = exec .b2Update (s.loadPart m)) (hfinal : ∀ s, final (.next s) = exec .b2Final s)
    {parts : List (List Byte)} (hparts : ∀ m ∈ parts, m.length ≤ 128) {s : State} (legal : s.b2cfg.legal = true) :
    ∃ t, final (parts.foldl feed (exec .b2Init s)) = .next t ∧ t.err = .none ∧ t.digest =
      digestOf (b2Finish (parts.flatten.foldl b2Absorb (b2Start s.b2cfg s.key s.salt s.pers))) := by
  rw [exec_b2Init_of_legal s legal]
  obtain ⟨t, e, hfold, he, habsorbed⟩ := foldl_feed hfeed hparts (s := { s with
    b2 := b2Start s.b2cfg s.key s.salt s.pers, err := .none, phase := .idle, done := true }) rfl
  rw [hfold, hfinal, exec_b2Final_of_accepting t (by rw [habsorbed]; exact he), habsorbed, b2Finish_withEngine]
  exact ⟨_, rfl, rfl, rfl⟩

/-- Settles O57: both digests are that of the one message. -/
theorem streamingGivesOneDigest : Obligations.StreamingGivesOneDigest := by
  intro s parts parts' legal hparts hparts' hmessage load feed final
  obtain ⟨t, hrun, herr, hdigest⟩ := digest_of_parts (feed := feed) (final := final) (fun _ _ => rfl) (fun _ => rfl)
    hparts legal
  obtain ⟨t', hrun', herr', hdigest'⟩ := digest_of_parts (feed := feed) (final := final) (fun _ _ => rfl)
    (fun _ => rfl) hparts' legal
  exact ⟨t, t', hrun, hrun', herr, herr', by rw [hdigest, hdigest', hmessage]⟩

end Sys2Proof.Machine
end

section
/-! SUPPORT. The compression function is R114's twelve rounds on the unsigned integers its words stand for: one lemma per
assignment of G, then the rounds by folding; and the final block and digest of B2_FINAL (R120). -/

namespace Sys2Proof.Machine

/-! ### A vector of words as a list of integers -/

/-- The words as the unsigned integers they stand for. -/
def nats {n : Nat} (v : Vector Word64 n) : List Nat := v.toList.map BitVec.toNat

theorem nats_eq_map_range {n : Nat} (v : Vector Word64 n) : nats v = (List.range n).map fun i => (wordAt v i).toNat := by
  refine List.ext_getElem (by simp [nats]) fun i hi _ => ?_
  have hn : i < n := by simpa [nats] using hi
  simp [nats, wordAt_eq_getElem v hn]

theorem getD_nats {n : Nat} (v : Vector Word64 n) (i : Nat) : (nats v).getD i 0 = (wordAt v i).toNat := by
  by_cases h : i < n
  · simp [nats, wordAt_eq_getElem v h, List.getD_eq_getElem?_getD, h]
  · simp [nats, wordAt, Vector.getD, List.getD_eq_getElem?_getD, h]

theorem set_nats {n : Nat} (v : Vector Word64 n) (i : Nat) (x : Word64) :
    (nats v).set i x.toNat = nats (v.setIfInBounds i x) := by
  rw [nats, nats, Vector.toList_setIfInBounds, List.map_set]

theorem wordAt_set_same {n : Nat} (v : Vector Word64 n) {i : Nat} (x : Word64) (h : i < n) :
    wordAt (v.setIfInBounds i x) i = x := by
  rw [wordAt_eq_getElem _ h, Vector.getElem_setIfInBounds_self]

theorem wordAt_set_other {n : Nat} (v : Vector Word64 n) {i j : Nat} (x : Word64) (h : j ≠ i) :
    wordAt (v.setIfInBounds i x) j = wordAt v j := by
  simp [wordAt, Vector.getD, Ne.symm h]

/-- Two vectors with the same words are the same. -/
theorem words_ext {n : Nat} {v w : Vector Word64 n} (h : ∀ i < n, wordAt v i = wordAt w i) : v = w :=
  Vector.ext fun i hi => by
    rw [← wordAt_eq_getElem v hi, ← wordAt_eq_getElem w hi, h i hi]

/-! ### The operations of R113 on unsigned integers -/

theorem add_mod_eq_toNat (x y : Word64) : (x.toNat + y.toNat) % 2 ^ 64 = (x + y).toNat :=
  (BitVec.toNat_add x y).symm

theorem add_add_mod_eq_toNat (x y z : Word64) : (x.toNat + y.toNat + z.toNat) % 2 ^ 64 = (x + y + z).toNat := by
  rw [BitVec.toNat_add, BitVec.toNat_add, Nat.mod_add_mod]

theorem rotr64_eq_toNat (x : Word64) {r : Nat} (hr : r < 64) : rotr64 x.toNat r = (x.rotateRight r).toNat := by
  have hlow : x.toNat >>> r < 2 ^ 64 := (Nat.shiftRight_le _ _).trans_lt x.isLt
  rw [rotr64, BitVec.toNat_rotateRight, Nat.mod_eq_of_lt hr, Nat.or_mod_two_pow, Nat.mod_eq_of_lt hlow]

/-! ### G (R113) -/

section Quad

variable {a b c d : Nat} (ha : a < 16) (hb : b < 16) (hc : c < 16) (hd : d < 16)
  (hab : a ≠ b) (hac : a ≠ c) (had : a ≠ d) (hbc : b ≠ c) (hbd : b ≠ d) (hcd : c ≠ d)
include ha hb hc hd hab hac had hbc hbd hcd

/-- Of two writes of each of four words, in the order of G's assignments, the second ones stay. -/
theorem sets_twice (v : Vector Word64 16) (p p' q q' r r' t t' : Word64) :
    (((((((v.setIfInBounds a p).setIfInBounds d q).setIfInBounds c r).setIfInBounds b t).setIfInBounds a
      p').setIfInBounds d q').setIfInBounds c r').setIfInBounds b t'
      = (((v.setIfInBounds a p').setIfInBounds b t').setIfInBounds c r').setIfInBounds d q' := by
  refine words_ext fun i _ => ?_
  by_cases hi : i = a ∨ i = b ∨ i = c ∨ i = d
  · obtain rfl | rfl | rfl | rfl := hi <;>
      simp (disch := omega) only [wordAt_set_same, wordAt_set_other]
  · simp (disch := omega) only [wordAt_set_other]

/-- G on the words is R113's eight assignments on the integers. -/
theorem mixBody_nats (v : Vector Word64 16) (x y : Word64) :
    mixBody (nats v) a b c d x.toNat y.toNat = nats (blakeG v a b c d x y) := by
  unfold mixBody
  simp (disch := omega) only [getD_nats, add_add_mod_eq_toNat, set_nats, ← BitVec.toNat_xor, add_mod_eq_toNat,
    rotr64_eq_toNat, wordAt_set_same, wordAt_set_other]
  exact congrArg nats (sets_twice ha hb hc hd hab hac had hbc hbd hcd v _ _ _ _ _ _ _ _)

end Quad

/-! ### COMPRESS (R114) -/

/-- A round is R114's eight calls of G. -/
theorem roundBody_nats (m v : Vector Word64 16) (r : Nat) :
    roundBody (nats m) (blakeSigma.getD (r % 10) []) (nats v) = nats (blakeRound m v r) := by
  rw [roundBody, show List.range 8 = [0, 1, 2, 3, 4, 5, 6, 7] from rfl]
  simp only [List.foldl_cons, List.foldl_nil, getD_nats]
  simp (disch := decide) only [mixQuads, List.getD_cons_zero, List.getD_cons_succ, mixBody_nats]
  rfl

theorem foldl_roundBody (m v : Vector Word64 16) (rs : List Nat) :
    rs.foldl (fun v r => roundBody (nats m) (blakeSigma.getD (r % 10) []) v) (nats v)
      = nats (rs.foldl (blakeRound m) v) :=
  List.foldl_hom nats (g₁ := blakeRound m) (g₂ := fun v r => roundBody (nats m) (blakeSigma.getD (r % 10) []) v)
    (roundBody_nats m)

theorem nats_messageWords (block : Vector Byte 128) : nats (messageWords block)
    = (List.range 16).map fun i => leint ((block.toList.drop (8 * i)).take 8) := by
  rw [nats_eq_map_range]
  refine List.map_congr_left fun i hi => ?_
  have hi16 : i < 16 := List.mem_range.mp hi
  have hlt : leint ((block.toList.drop (8 * i)).take 8) < 2 ^ 64 :=
    (leint_lt _).trans_le (Nat.pow_le_pow_right (by decide) (List.length_take_le 8 _))
  rw [messageWords, wordAt_ofFn _ hi16, leWordAt_eq_leint block (by omega), BitVec.toNat_ofNat,
    Nat.mod_eq_of_lt hlt]

theorem toNat_extractLsb'_low (t : BitVec 128) : (t.extractLsb' 0 64).toNat = t.toNat % 2 ^ 64 := rfl

theorem toNat_extractLsb'_high (t : BitVec 128) : (t.extractLsb' 64 64).toNat = t.toNat / 2 ^ 64 := by
  rw [BitVec.extractLsb'_toNat, Nat.shiftRight_eq_div_pow, Nat.mod_eq_of_lt (by omega)]

theorem nats_workingVector (h : Vector Word64 8) (t : BitVec 128) (f0 f1 : Word64) :
    nats (workingVector h t f0 f1) =
      let v := nats h ++ nats blakeIV
      let v := v.set 12 (v.getD 12 0 ^^^ t.toNat % 2 ^ 64)
      let v := v.set 13 (v.getD 13 0 ^^^ t.toNat / 2 ^ 64)
      let v := v.set 14 (v.getD 14 0 ^^^ f0.toNat)
      v.set 15 (v.getD 15 0 ^^^ f1.toNat) := by
  rw [nats_eq_map_range h, nats_eq_map_range blakeIV, ← toNat_extractLsb'_low, ← toNat_extractLsb'_high]
  simp only [workingVector, nats]
  rfl

/-- The compression function is R114's loop over the model's own tables. -/
theorem nats_compress (h : Vector Word64 8) (block : Vector Byte 128) (t : BitVec 128) (f0 f1 : Word64) :
    nats (compress h block t f0 f1)
      = compressLoop (nats blakeIV) blakeSigma (nats h) block.toList t.toNat f0.toNat f1.toNat := by
  have rounds := foldl_roundBody (messageWords block) (workingVector h t f0 f1) (List.range 12)
  rw [nats_workingVector, nats_messageWords] at rounds
  rw [compressLoop, nats_eq_map_range]
  simp only [rounds, getD_nats]
  refine List.map_congr_left fun i hi => ?_
  rw [compress, wordAt_ofFn _ (List.mem_range.mp hi)]
  rfl

/-! ### B2_FINAL (R120) -/

theorem hashByte_eq_ofNat (h : Vector Word64 8) (k : Nat) :
    hashByte h k = BitVec.ofNat 8 ((wordAt h (k / 8)).toNat / 2 ^ (8 * (k % 8))) := by
  rw [hashByte, BitVec.extractLsb', Nat.shiftRight_eq_div_pow]

/-- Settles O56: COMPRESS is R114's loop, and the completion of B2_FINAL holds the padded block, its compression and the
digest. -/
theorem b2FinalPadsCompressesAndOutputs : Obligations.B2FinalPadsCompressesAndOutputs := by
  refine ⟨nats_compress, fun s accepting => ⟨_, _, exec_b2Final_of_accepting s (EngineState.accepting_of accepting),
    rfl, ?_, rfl, rfl, rfl, rfl, fun k hk => byteAt_ofFn _ hk, rfl, fun k hk => ?_⟩⟩
  · rw [b2Finish, BitVec.toNat_add, BitVec.toNat_setWidth_of_le (by decide)]
  · rw [digestOf, byteAt_ofFn _ hk, hashByte_eq_ofNat]
    rfl

end Sys2Proof.Machine
end

section
/-! SUPPORT. Key derivation: the hash of a 32-byte seed on a fresh context is that of the hash commands, and a point read
back from FR is the one GE_SMULB wrote; and NOP (spec/44_keyderive.md). -/

namespace Sys2Proof.Machine

/-! ### What the commands answer -/

theorem exec_kdDerive_of_seedlen (s : State) (h : s.seedlen = 32#8) : exec .kdDerive s = .next { s with
    pubkey := derivePublic s.seed, expanded := expandKey s.seed (derivePublic s.seed),
    err := .none, phase := .idle, done := true } :=
  finish_guard h

/-- Settles O60: NOP's rule leaves the state as it is, and the completion writes STATUS. -/
theorem nopOnlyClearsErrAndSetsDone : Obligations.NopOnlyClearsErrAndSetsDone := fun _ => rfl

/-! ### KD_DERIVE depends on SEED alone (R123, R124) -/

theorem byteAt_expandKey_seed (seed pk : Vector Byte 32) {k : Nat} (hk : k < 32) :
    byteAt (expandKey seed pk) k = byteAt seed k := by
  rw [expandKey, byteAt_ofFn _ (by omega), if_pos hk]

theorem byteAt_expandKey_publicKey (seed pk : Vector Byte 32) {k : Nat} (hk : k < 32) :
    byteAt (expandKey seed pk) (32 + k) = byteAt pk k := by
  rw [expandKey, byteAt_ofFn _ (by omega), if_neg (by simp), Nat.add_sub_cancel_left]

/-- Settles O58: both states complete with the key that the model derives from their one seed. -/
theorem kdDeriveDependsOnSeedAlone : Obligations.KdDeriveDependsOnSeedAlone := by
  intro s s' hlen hlen' hseed
  refine ⟨derivePublic s.seed, expandKey s.seed (derivePublic s.seed), exec_kdDerive_of_seedlen s hlen, ?_,
    fun _ => byteAt_expandKey_seed _ _, fun _ => byteAt_expandKey_publicKey _ _⟩
  rw [hseed]
  exact exec_kdDerive_of_seedlen s' hlen'

/-! ### The seed's hash by the hash commands (R123 step 3) -/

/-- The configuration of key derivation takes neither SALT nor PERS. -/
theorem paramBlock_deriveConfig (salt pers : Vector Byte 16) :
    paramBlock deriveConfig salt pers = paramBlock deriveConfig (zeroBytes 16) (zeroBytes 16) := by
  simp [paramBlock, deriveConfig]

/-- Whatever the buffer held before, a block of a message put at its start and padded is the message, then zeros. -/
theorem padBuffer_putBytes_zero (buf : Vector Byte 128) {n : Nat} (x : Vector Byte n) {xs : List Byte}
    (hxs : ∀ k < xs.length, xs.getD k 0#8 = byteAt x k) : padBuffer (putBytes buf 0 xs) xs.length
      = Vector.ofFn fun k => if k.val < xs.length then byteAt x k.val else 0#8 := by
  refine bytes_ext fun k hk => ?_
  rw [padBuffer, byteAt_ofFn _ hk, byteAt_ofFn _ hk]
  by_cases hlt : k < xs.length
  · rw [if_pos hlt, if_pos hlt, byteAt_putBytes _ _ _ hk, if_pos (by omega), Nat.sub_zero, hxs k hlt]
  · rw [if_neg hlt, if_neg hlt]

/-- An output length of 64 takes every hash byte. -/
theorem digestOf_of_nn {b : Blake2bState} (h : b.nn = 64#7) : digestOf b = hashBytes b.h :=
  bytes_ext fun k hk => by
    rw [digestOf, hashBytes, byteAt_ofFn _ hk, byteAt_ofFn _ hk, if_pos (by simpa [h] using hk)]

/-- B2_INIT, one B2_UPDATE of the seed and B2_FINAL digest to the seed's hash, whatever KEY, SALT and PERS hold. -/
theorem digestOf_seed (key : Vector Byte 64) (salt pers : Vector Byte 16) (seed : Vector Byte 32) {xs : List Byte}
    (hlen : xs.length = 32) (hxs : ∀ k < xs.length, xs.getD k 0#8 = byteAt seed k) :
    digestOf (b2Finish (b2AbsorbAll (b2Start deriveConfig key salt pers) xs)) = seedHash seed := by
  have hempty : (b2Start deriveConfig key salt pers).buflen = 0#8 := rfl
  have habsorbed := foldl_b2Absorb_of_fits xs (b := b2Start deriveConfig key salt pers) (by simp [hempty, hlen])
  have hblock := padBuffer_putBytes_zero (b2Start deriveConfig key salt pers).buf seed hxs
  rw [hlen] at hblock
  rw [b2AbsorbAll, habsorbed, b2Finish_withEngine, digestOf_of_nn rfl, seedHash, ← hblock,
    ← paramBlock_deriveConfig salt pers]
  simp only [b2Finish, Blake2bState.append, hempty, hlen]
  rfl

/-! ### The composed commands (R124 property 2) -/

/-- The completion leaves the groups as they are. -/
theorem readProjective_complete (s : State) (c : ErrorCode) (r : Reg) :
    (s.complete c).readProjective r = s.readProjective r := rfl

/-- X, Y and Z of an extended group are its first three registers (R18). -/
theorem extendedToProjective_readExtended (s : State) (r : Reg) :
    extendedToProjective (s.readExtended r) = s.readProjective r := rfl

/-! What each command of the sequence answers, as far as the next one reads it.  The state stays a name here: written out,
the records of six commands would nest. -/

section Answers

variable {s : State}

theorem exec_b2Init_b2 (legal : s.b2cfg.legal = true) :
    ∃ t, exec .b2Init s = .next t ∧ t.err = .none ∧ t.b2 = b2Start s.b2cfg s.key s.salt s.pers :=
  ⟨_, exec_b2Init_of_legal s legal, rfl, rfl⟩

theorem exec_b2Update_b2 (hlen : s.b2len.toNat ≤ 128) (accepting : s.b2.engine.accepting = true) :
    ∃ t, exec .b2Update s = .next t ∧ t.err = .none
      ∧ t.b2 = b2AbsorbAll s.b2 (s.data.toList.take s.b2len.toNat) :=
  ⟨_, exec_b2Update_of_accepting s hlen accepting, rfl, rfl⟩

theorem exec_b2Final_digest (accepting : s.b2.engine.accepting = true) :
    ∃ t, exec .b2Final s = .next t ∧ t.err = .none ∧ t.digest = digestOf (b2Finish s.b2) :=
  ⟨_, exec_b2Final_of_accepting s accepting, rfl, rfl⟩

theorem exec_scClamp_scalar : ∃ t, exec .scClamp s = .next t ∧ t.scalar = clamp s.scalar :=
  ⟨_, rfl, rfl⟩

theorem exec_geSmulb_readProjective {rd : Reg} (hd : rd.val ≤ 28) : ∃ t, exec (.geSmulb rd) s = .next t
    ∧ t.readProjective rd = extendedToProjective (scalarMultBase s.scalar) :=
  ⟨_, finish_guard (groupFits_of_le hd), by
    rw [readProjective_complete, ← extendedToProjective_readExtended, readExtended_writeExtended _ _ _ (by omega)]⟩

theorem exec_geEncode_out32 {ra : Reg} (ha : ra.val ≤ 29) : ∃ t, exec (.geEncode ra) s = .next t
    ∧ t.err = .none ∧ t.out32 = pointEncode (s.readProjective ra) :=
  ⟨_, finish_guard (groupFits_of_le ha), rfl, rfl⟩

end Answers

/-- Settles O59: step by step, the commands compute the functions that KD_DERIVE composes. -/
theorem kdDeriveIsTheComposedSequence : Obligations.KdDeriveIsTheComposedSequence := by
  intro s d hlen hd
  obtain ⟨s1, hinit, herr1, hstart⟩ := exec_b2Init_b2 (s := { s with b2cfg := deriveConfig }) rfl
  obtain ⟨s2, hupdate, herr2, habsorb⟩ := exec_b2Update_b2 (s := { s1 with b2len := 32#8, data := d }) (by simp)
    (congrArg (·.engine.accepting) hstart)
  obtain ⟨s3, hfinal, herr3, hdigest⟩ := exec_b2Final_digest (congrArg (·.engine.accepting) habsorb)
  obtain ⟨s4, hclamp, hscalar⟩ := exec_scClamp_scalar
    (s := { s3 with scalar := Vector.ofFn fun k => byteAt s3.digest k.val })
  obtain ⟨s5, hmult, hpoint⟩ := exec_geSmulb_readProjective (s := s4) (rd := 0) (by decide)
  obtain ⟨s6, hencode, herr6, hout⟩ := exec_geEncode_out32 (s := s5) (ra := 0) (by decide)
  have hhash : s3.digest = seedHash s.seed := by
    rw [hdigest, habsorb, hstart]
    refine digestOf_seed s.key s.salt s.pers s.seed (by simp) fun k hk => ?_
    have hk32 : k < 32 := by simpa using hk
    exact (getD_take_toList d hk32 (by decide)).trans (hd k hk32)
  refine ⟨s1, s2, s3, s4, s5, s6, _, hinit, hupdate, hfinal, hclamp, hmult, hencode, herr1, herr2, herr3, herr6,
    exec_kdDerive_of_seedlen s hlen, ?_⟩
  rw [hout, hpoint, hscalar, hhash]
  rfl

end Sys2Proof.Machine
end

section
/-! SUPPORT. What each command reports, by the guard of its rule (R126 to R128), that a failure leaves the state before
it (R129), and what raises and lowers irq (R131). -/

namespace Sys2Proof.Machine

/-! ### A failed command (R129) -/

/-- Settles O9: a completion with an error is of the state before the command, and a success reports no error. -/
theorem failedCommandLeavesTheStateBefore : Obligations.FailedCommandLeavesTheStateBefore := by
  intro i s t hexec herr
  obtain ⟨c, herror⟩ | ⟨u, hok, -⟩ := exec_cases i s
  · cases hexec.symm.trans herror
    rfl
  · cases hexec.symm.trans hok
    exact absurd (u.complete_err .none) herr

/-! ### The code of a guarded rule -/

section Guarded

variable {s t : State} {c : Prop} [Decidable c] {e : ErrorCode} {p : Prop} [Decidable p]

/-- A rule that writes under a condition reports its error when the condition fails. -/
theorem finish_guard_err_of_iff (h : c ↔ p) :
    ∃ u, finish s (if c then .ok t else .error e) = .next u ∧ u.err = if p then .none else e := by
  by_cases hc : c
  · exact ⟨_, finish_guard hc, (if_pos (h.mp hc)).symm⟩
  · exact ⟨s.complete e, by rw [if_neg hc, finish_eq, State.conclude_error], (if_neg (mt h.mpr hc)).symm⟩

/-- The same, with the condition under which the rule fails. -/
theorem finish_guard_err_of_iff_not (h : c ↔ ¬p) :
    ∃ u, finish s (if c then .ok t else .error e) = .next u ∧ u.err = if p then e else .none := by
  simpa only [ite_not] using finish_guard_err_of_iff (s := s) (t := t) (e := e) h

end Guarded

/-! ### Guards as the table of R127 states them -/

theorem groupFits_iff_not_gt (r : Reg) (k : Nat) (hk : k ≤ 32 := by decide) :
    groupFits r k = true ↔ ¬ r.val > 32 - k := by
  rw [groupFits_iff]
  omega

/-- A conjunction of guards fails when one of them does. -/
theorem and_iff_not_or {a b : Bool} {p q : Prop} (ha : a = true ↔ ¬p) (hb : b = true ↔ ¬q) :
    (a && b) = true ↔ ¬(p ∨ q) := by
  rw [Bool.and_eq_true, ha, hb, not_or]

theorem groupsFit_iff_not_gt (r q : Reg) (k l : Nat) (hk : k ≤ 32 := by decide) (hl : l ≤ 32 := by decide) :
    (groupFits r k && groupFits q l) = true ↔ ¬(r.val > 32 - k ∨ q.val > 32 - l) :=
  and_iff_not_or (groupFits_iff_not_gt r k hk) (groupFits_iff_not_gt q l hl)

/-- B2_INIT's check of the four lengths (R118, R126), as numbers. -/
theorem B2Config.legal_iff (c : B2Config) : c.legal = true ↔
    (1 ≤ c.outlen.toNat ∧ c.outlen.toNat ≤ 64) ∧ c.keylen.toNat ≤ 64
      ∧ (c.saltlen.toNat = 0 ∨ c.saltlen.toNat = 16) ∧ (c.perslen.toNat = 0 ∨ c.perslen.toNat = 16) := by
  simp [B2Config.legal, ← BitVec.toNat_inj, and_assoc]

theorem EngineState.accepting_iff_not_or (e : EngineState) :
    e.accepting = true ↔ ¬(e = .uninitialized ∨ e = .finalized) := by
  rw [accepting_iff, not_or]

/-- B2_UPDATE reports a bad length before a bad engine state (R128). -/
theorem exec_b2Update_err (s : State) :
    ∃ t, exec .b2Update s = .next t ∧ t.err = expectedError .b2Update s := by
  by_cases hlen : 128 < s.b2len.toNat
  · exact ⟨_, exec_b2Update_of_long s hlen, (if_pos hlen).symm⟩
  · rw [exec, execB2Update, expectedError, if_neg hlen, if_neg hlen]
    exact finish_guard_err_of_iff_not s.b2.engine.accepting_iff_not_or

/-- Settles O8: row by row of R127's table, the guard of the command's rule is the row's condition. -/
theorem commandsReportTheirErrorCodes : Obligations.CommandsReportTheirErrorCodes := by
  intro i s
  cases i with
  | feZero | feOne | feCopy | feAdd | feSub | feNeg | feMul | feSq | feSq2 | feReduce | feInv | feCmov | feIsneg
  | feTobytes | scClamp | nop => exact ⟨_, rfl, rfl⟩
  | geId rd | geSmulb rd => exact finish_guard_err_of_iff_not (groupFits_iff_not_gt rd 4)
  | geSelect rd blk dig => exact finish_guard_err_of_iff_not (groupFits_iff_not_gt rd 3)
  | geEncode ra => exact finish_guard_err_of_iff_not (groupFits_iff_not_gt ra 3)
  | geDbl rd ra => exact finish_guard_err_of_iff_not (groupsFit_iff_not_gt rd ra 4 3)
  | geC2p rd ra => exact finish_guard_err_of_iff_not (groupsFit_iff_not_gt rd ra 3 4)
  | geC2e rd ra => exact finish_guard_err_of_iff_not (groupsFit_iff_not_gt rd ra 4 4)
  | geE2p rd ra => exact finish_guard_err_of_iff_not (groupsFit_iff_not_gt rd ra 3 3)
  | geMadd rd ra rb =>
    have hfits := and_iff_not_or (groupsFit_iff_not_gt rd ra 4 4) (groupFits_iff_not_gt rb 3)
    exact finish_guard_err_of_iff_not (hfits.trans (not_congr or_assoc))
  | b2Init => exact finish_guard_err_of_iff s.b2cfg.legal_iff
  | b2Update => exact exec_b2Update_err s
  | b2Final => exact finish_guard_err_of_iff_not s.b2.engine.accepting_iff_not_or
  | kdDerive => exact finish_guard_err_of_iff BitVec.toNat_inj.symm

/-! ### The interrupt output (R131) -/

/-- irq is low exactly when IE or DONE is. -/
theorem irq_false_iff (s : State) : s.irq = false ↔ s.ie = false ∨ s.done = false := Bool.and_eq_false_iff

/-- The reset values of IE and DONE are 0 (R36). -/
theorem resetBlock_irq (s : State) : s.resetBlock.irq = false := (irq_false_iff _).mpr (.inl s.resetBlock_ie)

/-- A completion with any code raises irq exactly when IE = 1. -/
theorem complete_irq (s : State) (c : ErrorCode) : (s.complete c).irq = s.ie := by
  rw [State.irq, State.complete_ie, State.complete_done, Bool.and_true]

theorem exec_irq {i : Instr} {s t : State} (hexec : exec i s = .next t) : t.irq = s.ie := by
  obtain ⟨u, c, hcomplete, hkeeps⟩ := exec_completes i s
  cases hexec.symm.trans hcomplete
  rw [complete_irq, hkeeps.ie]

theorem writeStatus_irq_of_done (s : State) {w : Word} (h : w.getLsbD 1 = true) : (s.writeStatus w).irq = false :=
  (irq_false_iff _).mpr (.inr (by simp [h]))

/-- A write of CTRL with IE = 0 lowers irq, a soft reset or not (R25, R140). -/
theorem writeCtrl_irq_of_ie (s : State) {w : Word} (h : w.getLsbD 0 = false) : (s.writeCtrl w).irq = false := by
  unfold State.writeCtrl
  split
  · exact resetBlock_irq s
  · exact (irq_false_iff _).mpr (.inl h)

/-- Settles O13: the formula by the bits of CTRL and STATUS, then each way to raise and to lower irq. -/
theorem irqIsEnableAndDone : Obligations.IrqIsEnableAndDone := by
  refine ⟨fun s => ?_, fun _ _ _ => exec_irq, fun s v => (irq_false_iff _).mpr (.inr (s.accept_done v)),
    fun s _ => writeStatus_irq_of_done s, fun s _ => writeCtrl_irq_of_ie s,
    fun s => ⟨resetBlock_irq s, resetBlock_irq s⟩⟩
  rw [ctrlWord_ie, statusWord_getLsbD]
  rfl

end Sys2Proof.Machine
end

section
/-! SUPPORT. Host accesses while BUSY (R143, R144), the two resets (R139, R140), and that a command in flight which no
reset aborts completes (R146). -/

namespace Sys2Proof.Machine

/-! ### Writes while BUSY (R143) -/

theorem writableWhileBusy_iff (l : Loc) : l.writableWhileBusy = true ↔ l = .ctrl ∨ l = .status := by
  simp [Loc.writableWhileBusy]

/-- While BUSY a write to any location but CTRL and STATUS is dropped and sets OVR (R143). -/
theorem busWrite_dropped {s : State} (released : s.env.resetPin = false) (busy : s.phase = .busy) {a : Offset}
    (w : Word) (hctrl : locOf a ≠ .ctrl) (hstatus : locOf a ≠ .status) : s.busWrite a w = { s with ovr := true } := by
  have hwritable : ¬(locOf a).writableWhileBusy = true := fun h =>
    ((writableWhileBusy_iff _).mp h).elim hctrl hstatus
  simp [State.busWrite, released, (busy_iff s).mpr busy, hwritable]

/-- Out of reset a write to CTRL or STATUS is performed, busy or not (R143). -/
theorem busWrite_writable {s : State} (released : s.env.resetPin = false) {a : Offset} (w : Word)
    (h : locOf a = .ctrl ∨ locOf a = .status) : s.busWrite a w = s.writeLoc (locOf a) w := by
  simp [State.busWrite, released, (writableWhileBusy_iff _).mpr h]

theorem busWrite_status {s : State} (released : s.env.resetPin = false) {a : Offset} (w : Word)
    (h : locOf a = .status) : s.busWrite a w = s.writeStatus w := by
  rw [busWrite_writable released w (.inr h), h, State.writeLoc]

theorem busWrite_ctrl {s : State} (released : s.env.resetPin = false) {a : Offset} (w : Word)
    (h : locOf a = .ctrl) : s.busWrite a w = s.writeCtrl w := by
  rw [busWrite_writable released w (.inl h), h, State.writeLoc]

/-- SRST = 1 is a soft reset (R25, R140). -/
theorem writeCtrl_srst (s : State) {w : Word} (h : w.getLsbD 1 = true) : s.writeCtrl w = s.resetBlock := if_pos h

/-- SRST = 0 stores IE (R25). -/
theorem writeCtrl_ie (s : State) {w : Word} (h : w.getLsbD 1 = false) : s.writeCtrl w = { s with ie := w.getLsbD 0 } :=
  if_neg (Bool.eq_false_iff.mp h)

theorem locOf_ctrl : locOf 0x0004#13 = .ctrl := by decide

theorem locOf_status : locOf 0x0008#13 = .status := by decide

/-- Settles O25: dropped or performed by the location, and no command writes OVR. -/
theorem busyWritesAreDroppedAndSetOvr : Obligations.BusyWritesAreDroppedAndSetOvr := by
  intro s a w released
  refine ⟨fun busy => busWrite_dropped released busy w, fun h => busWrite_status released w h,
    fun h srst => (busWrite_ctrl released w h).trans (writeCtrl_srst s srst),
    fun h srst => (busWrite_ctrl released w h).trans (writeCtrl_ie s srst), locOf_ctrl, locOf_status,
    fun i t hexec => ?_⟩
  obtain ⟨u, c, hcomplete, hkeeps⟩ := exec_completes i s
  cases hexec.symm.trans hcomplete
  exact hkeeps.ovr

/-! ### Reads while BUSY (R144) -/

theorem inFlightMayWrite_legal {s : State} (busy : s.phase = .busy) {i : Instr} (legal : decode s.inflight = .ok i)
    (l : Loc) : s.inFlightMayWrite l = mayWrite i l := by
  simp [State.inFlightMayWrite, (busy_iff s).mpr busy, legal]

/-- An illegal command word writes nothing (R61). -/
theorem inFlightMayWrite_illegal {s : State} {e : DecodeError} (illegal : decode s.inflight = .error e) (l : Loc) :
    s.inFlightMayWrite l = false := by
  simp [State.inFlightMayWrite, illegal]

/-- A destination of the command in flight reads as any value (R144). -/
theorem busRead_destination {s : State} {a : Offset} (h : s.inFlightMayWrite (locOf a) = true) :
    s.busRead a = s.returnAny := if_pos (by simp [h])

/-- Out of reset every other location reads as its current value (R38, R144). -/
theorem busRead_current {s : State} (released : s.env.resetPin = false) {a : Offset}
    (h : s.inFlightMayWrite (locOf a) = false) : s.busRead a = s.returnData (s.readLoc (locOf a)) :=
  if_neg (by simp [released, h])

/-- Field registers, byte registers, the engine's windows and RESULT are all that commands write (R19, R20, R144). -/
theorem mayWrite_eq_false {l : Loc} (group : ∀ r k, l.inGroup r k = false) (bytes : ∀ r, l.inBytes r = false)
    (engine : l.inEngine = false) (result : l ≠ .result) (i : Instr) : mayWrite i l = false := by
  cases i with
  | feZero | feOne | feCopy | feAdd | feSub | feNeg | feMul | feSq | feSq2 | feReduce | feInv | feCmov
  | geId | geDbl | geMadd | geC2p | geC2e | geE2p | geSelect | geSmulb => exact group _ _
  | feTobytes | geEncode | scClamp => exact bytes _
  | feIsneg => exact decide_eq_false result
  | b2Init | b2Update => exact engine
  | b2Final => exact Bool.or_eq_false_iff.mpr ⟨engine, bytes _⟩
  | kdDerive => exact Bool.or_eq_false_iff.mpr ⟨bytes _, bytes _⟩
  | nop => rfl

/-- ID, CTRL, STATUS, CMD and reserved offsets are no command's destination (R144). -/
theorem mayWrite_eq_false_of_mem {l : Loc} (h : l ∈ [Loc.id, .ctrl, .status, .cmd, .reserved]) (i : Instr) :
    mayWrite i l = false := by
  simp only [List.mem_cons, List.not_mem_nil, or_false] at h
  obtain rfl | rfl | rfl | rfl | rfl := h <;>
    exact mayWrite_eq_false (fun _ _ => rfl) (fun _ => rfl) rfl (by simp) i

/-- Settles O26: what the word in flight may write decides what the read returns. -/
theorem busyReadsOfDestinationsReturnAnyValue : Obligations.BusyReadsOfDestinationsReturnAnyValue := by
  intro s a busy released
  refine ⟨fun i legal dest => ⟨_, busRead_destination ?_⟩, fun i legal other => busRead_current released ?_,
    fun e illegal => busRead_current released (inFlightMayWrite_illegal illegal _),
    fun i h => mayWrite_eq_false_of_mem h i⟩
  · rwa [inFlightMayWrite_legal busy legal]
  · rwa [inFlightMayWrite_legal busy legal]

/-! ### The two resets (R139, R140) -/

/-- Settles O27: the write is performed, busy or not, and is a soft reset; the reset value of IE is 0. -/
theorem softResetGivesTheResetState : Obligations.SoftResetGivesTheResetState := by
  intro s w released srst
  have hreset : s.busWrite 0x0004#13 w = s.resetBlock :=
    (busWrite_ctrl released w locOf_ctrl).trans (writeCtrl_srst s srst)
  exact ⟨hreset, by rw [hreset, State.ctrlWord, State.resetBlock_ie]; decide⟩

/-- The asserted reset input, released, leaves the reset values (R139). -/
theorem releaseReset_held {s : State} (held : s.env.resetPin = true) :
    s.releaseReset = { State.reset with env := { s.env with resetPin := false } } := if_pos held

/-- With the input not asserted there is nothing to release. -/
theorem releaseReset_released {s : State} (released : s.env.resetPin = false) : s.releaseReset = s :=
  if_neg (by simp [released])

theorem busWrite_held {s : State} (held : s.env.resetPin = true) (a : Offset) (w : Word) : s.busWrite a w = s :=
  if_pos held

theorem busRead_held {s : State} (held : s.env.resetPin = true) (a : Offset) : s.busRead a = s.returnAny :=
  if_pos (by simp [held])

/-- Settles O28: each move while the input is asserted, by its own rule. -/
theorem hardwareResetHoldsTheBlock : Obligations.HardwareResetHoldsTheBlock := fun s =>
  ⟨rfl, fun held => ⟨releaseReset_held held, sequencerTurn_held s held, busWrite_held held,
    fun a => ⟨_, busRead_held held a⟩⟩⟩

/-! ### Host moves that keep the command in flight -/

/-- The two states have the same command in flight, the same level of the reset input, and the same coming moves. -/
structure SameFlight (s t : State) : Prop where
  phase : t.phase = s.phase
  inflight : t.inflight = s.inflight
  resetPin : t.env.resetPin = s.env.resetPin
  moves : t.env.moves = s.env.moves

/-- The move resets nothing: it is no assertion of the reset input and no write of CTRL with SRST = 1. -/
def Move.NoReset (m : Move) : Prop :=
  m ≠ .host .assertReset ∧ ∀ a w, m = .host (.write a w) → locOf a = .ctrl → w.getLsbD 1 = false

/-- A read changes the host side's word and draws alone (R48). -/
theorem busRead_sameFlight (s : State) (a : Offset) : SameFlight s (s.busRead a) := by
  obtain hread | hread := busRead_cases s a
  · exact hread ▸ ⟨rfl, rfl, rfl, rfl⟩
  · exact hread ▸ ⟨rfl, rfl, rfl, rfl⟩

/-- While BUSY a write is dropped, clears DONE and OVR, or stores IE, if it is no soft reset (R143). -/
theorem busWrite_sameFlight {s : State} (released : s.env.resetPin = false) (busy : s.phase = .busy) (a : Offset)
    {w : Word} (noReset : locOf a = .ctrl → w.getLsbD 1 = false) : SameFlight s (s.busWrite a w) := by
  by_cases hctrl : locOf a = .ctrl
  · rw [busWrite_ctrl released w hctrl, writeCtrl_ie s (noReset hctrl)]
    exact ⟨rfl, rfl, rfl, rfl⟩
  by_cases hstatus : locOf a = .status
  · rw [busWrite_status released w hstatus]
    exact ⟨rfl, rfl, rfl, rfl⟩
  · rw [busWrite_dropped released busy w hctrl hstatus]
    exact ⟨rfl, rfl, rfl, rfl⟩

/-- No action of the host but a reset touches the command in flight. -/
theorem hostAct_sameFlight {s : State} (released : s.env.resetPin = false) (busy : s.phase = .busy) {x : HostAction}
    (noReset : Move.NoReset (.host x)) : SameFlight s (s.hostAct x) := by
  obtain ⟨noAssert, noSrst⟩ := noReset
  cases x with
  | read a => exact busRead_sameFlight s a
  | write a w => exact busWrite_sameFlight released busy a (noSrst a w rfl)
  | assertReset => exact absurd rfl noAssert
  | releaseReset =>
    rw [State.hostAct, releaseReset_released released]
    exact ⟨rfl, rfl, rfl, rfl⟩

/-- A step of the host that resets nothing uses up its move and leaves the command in flight. -/
theorem step_host_sameFlight {s : State} (released : s.env.resetPin = false) (busy : s.phase = .busy) {x : HostAction}
    {ms : List Move} (hmoves : s.env.moves = .host x :: ms) (noReset : Move.NoReset (.host x)) :
    ∃ t, step s = .next t ∧ SameFlight { s with env := { s.env with moves := ms } } t :=
  ⟨_, step_of_host (nextTurn_of_host hmoves),
    hostAct_sameFlight (s := { s with env := { s.env with moves := ms } }) released busy noReset⟩

/-! ### An accepted command completes (R146) -/

/-- Every step answers a next state: a completion is one too (R129, R146, R148). -/
theorem step_next (s : State) : ∃ t, step s = .next t := by
  obtain ⟨-, u, -, ⟨a, hhost⟩ | hwait | ⟨-, ⟨i, hexec⟩ | hillegal⟩⟩ := step_cases s
  · exact ⟨_, hhost⟩
  · exact ⟨_, hwait⟩
  · obtain ⟨t, c, hcomplete, -⟩ := exec_completes i u
    exact ⟨_, hexec.trans hcomplete⟩
  · exact ⟨_, hillegal⟩

/-- The sequencer's turn, busy and out of reset, completes the word in flight, legal or not (R34, R61). -/
theorem step_completes {s u : State} (turn : s.nextTurn = u.sequencerTurn) (busy : u.phase = .busy)
    (released : u.env.resetPin = false) :
    ∃ t, step s = .next t ∧ t.phase = .idle ∧ t.done = true ∧ t.inflight = u.inflight := by
  cases hdecode : decode u.inflight with
  | ok i =>
    obtain ⟨t, c, hcomplete, hkeeps⟩ := exec_completes i u
    exact ⟨_, (step_eq_exec turn busy released hdecode).trans hcomplete, rfl, rfl, hkeeps.inflight⟩
  | error e => exact ⟨_, step_eq_completeIllegal turn busy released hdecode, rfl, rfl, rfl⟩

/-- A command in flight whose coming moves `ms` hold no reset completes once they are used up, or before. -/
theorem run_completes (ms : List Move) {s : State} (hmoves : s.env.moves = ms) (busy : s.phase = .busy)
    (released : s.env.resetPin = false) (noReset : ∀ m ∈ ms, m.NoReset) :
    ∃ n t, n ≤ ms.length + 1 ∧ core.run n s = .next t ∧ t.phase = .idle ∧ t.done = true
      ∧ t.inflight = s.inflight := by
  induction ms generalizing s with
  | nil =>
    obtain ⟨t, hstep, hdone⟩ := step_completes (nextTurn_of_no_moves hmoves) busy released
    exact ⟨1, t, le_rfl, core_run_succ hstep 0, hdone⟩
  | cons m ms ih =>
    cases m with
    | sequencer =>
      obtain ⟨t, hstep, hdone⟩ := step_completes (nextTurn_of_sequencer hmoves) busy released
      exact ⟨1, t, by simp, core_run_succ hstep 0, hdone⟩
    | host x =>
      obtain ⟨noResetHead, noResetTail⟩ := List.forall_mem_cons.mp noReset
      obtain ⟨u, hstep, same⟩ := step_host_sameFlight released busy hmoves noResetHead
      obtain ⟨n, t, hn, hrun, hphase, hdone, hinflight⟩ :=
        ih same.moves (same.phase.trans busy) (same.resetPin.trans released) noResetTail
      exact ⟨n + 1, t, Nat.succ_le_succ hn, (core_run_succ hstep n).trans hrun, hphase, hdone,
        hinflight.trans same.inflight⟩

/-- Settles O11: no step stops, and by induction on the coming moves the sequencer's turn comes. -/
theorem acceptedCommandCompletes : Obligations.AcceptedCommandCompletes :=
  ⟨step_next, fun _ busy released noReset => run_completes _ rfl busy released noReset⟩

/-! ### Every latency is admitted (R146) -/

/-- On the sequencer's own move the command in flight completes after no other step. -/
theorem completesAfter_zero {s : State} {ms : List Move} (hmoves : s.env.moves = .sequencer :: ms)
    (busy : s.phase = .busy) (released : s.env.resetPin = false) : CompletesAfter s 0 :=
  ⟨⟨s, _, _, rfl, (nextTurn_of_sequencer hmoves).trans (sequencerTurn_command _ busy released)⟩,
    fun _ hj => absurd hj (Nat.not_lt_zero _)⟩

/-- A host step before it delays a completion by one step. -/
theorem CompletesAfter.succ {s t : State} {x : HostAction} {ms : List Move} {k : Nat} (h : CompletesAfter t k)
    (hmoves : s.env.moves = .host x :: ms) (busy : s.phase = .busy) (hstep : step s = .next t) :
    CompletesAfter s (k + 1) := by
  obtain ⟨⟨t', w, u, hrun, hturn⟩, hbefore⟩ := h
  refine ⟨⟨t', w, u, (core_run_succ hstep k).trans hrun, hturn⟩, fun j hj => ?_⟩
  cases j with
  | zero => exact ⟨s, rfl, busy, fun w u => by simp [nextTurn_of_host hmoves]⟩
  | succ j =>
    obtain ⟨v, hrun, hv⟩ := hbefore j (Nat.lt_of_succ_lt_succ hj)
    exact ⟨v, (core_run_succ hstep j).trans hrun, hv⟩

/-- The host's moves that reset nothing, before the sequencer's, are the latency of the command in flight. -/
theorem completesAfter_length (xs : List HostAction) {s : State} {ms : List Move}
    (hmoves : s.env.moves = xs.map .host ++ .sequencer :: ms) (busy : s.phase = .busy)
    (released : s.env.resetPin = false) (noReset : ∀ x ∈ xs, Move.NoReset (.host x)) :
    CompletesAfter s xs.length := by
  induction xs generalizing s with
  | nil => exact completesAfter_zero hmoves busy released
  | cons x xs ih =>
    obtain ⟨noResetHead, noResetTail⟩ := List.forall_mem_cons.mp noReset
    obtain ⟨t, hstep, same⟩ := step_host_sameFlight released busy hmoves noResetHead
    exact (ih same.moves (same.phase.trans busy) (same.resetPin.trans released) noResetTail).succ hmoves busy hstep

theorem read_noReset (a : Offset) : Move.NoReset (.host (.read a)) :=
  ⟨by simp, fun _ _ h => nomatch h⟩

theorem completesAfter_reads {k : Nat} {a : Offset} {s : State} {ms : List Move}
    (hmoves : s.env.moves = List.replicate k (.host (.read a)) ++ .sequencer :: ms) (busy : s.phase = .busy)
    (released : s.env.resetPin = false) : CompletesAfter s k := by
  rw [← List.map_replicate] at hmoves
  have hafter := completesAfter_length _ hmoves busy released
    fun x hx => List.eq_of_mem_replicate hx ▸ read_noReset a
  rwa [List.length_replicate] at hafter

/-- Settles O12: the first step is the accept of O6, and the polls that follow are the latency. -/
theorem everyLatencyIsAdmitted : Obligations.EveryLatencyIsAdmitted := by
  intro s w k idle released polls
  have haccept := cmdWriteAcceptsTheWord
    { s with env := { s.env with moves := .host (.write 0x000C#13 w) :: (polls ++ [.sequencer]) } } w _ idle released
    rfl
  exact ⟨_, haccept, completesAfter_reads rfl rfl released⟩

end Sys2Proof.Machine
end
